-- ==== Sys2Proof/Word.lean ====
section
/-! DEFINITION. The widths of the block: bytes, tag values, durations. -/

namespace Sys2Proof

/-- A byte, 8 bits, bit 7 most significant (00 R9). -/
abbrev Byte := BitVec 8

/-- A tag value, 40 bits unsigned (00 R7 TAG_W, 10 R35). -/
abbrev TagValue := BitVec 40

/-- A duration in microseconds; the spec leaves the unit to the model (10 R33; DESIGN CHOICE, log 3, unsafe). -/
abbrev Duration := Nat

/-- A positive duration: the legal values of CFG.TFRAME (00 R7, 10 R30). -/
abbrev PosDuration := { d : Duration // 0 < d }

end Sys2Proof
end

