-- ==== Sys2Proof/Syntax.lean ====
section
/-! DEFINITION. The operations of the block: one constructor of Instr per row of spec/opcode_table.json, and the
small enumerations that operands and decoding contexts use. -/

namespace Sys2Proof

/-- The two requesters of the engine: the host and the presence monitor (60 R243). -/
inductive Requester where
  | host
  | mon
  deriving DecidableEq, Repr

/-- The legal values of CFG.DATASIZE, 14 (Variant B) and 16 (Variant A); no other value is ever held
(10 R31, 30 R96). -/
inductive DataSize where
  | d14
  | d16
  deriving DecidableEq, Repr

/-- The sequencer's states (10 R25); the encoding 3 is never reached (30 R96). -/
inductive FState where
  | idle
  | start
  | collect
  deriving DecidableEq, Repr

/-- The operations, in the order of spec/opcode_table.json. -/
inductive Instr where
  /-- FRAME_A: a whole 16-byte frame is taken; payload characters P0..P9, checksum K0 K1, terminator T0..T2 (30 R90). -/
  | frameA (p0 p1 p2 p3 p4 p5 p6 p7 p8 p9 k0 k1 t0 t1 t2 : Byte)
  /-- FRAME_B: a whole 14-byte frame is taken; payload characters P0..P9, checksum K0 K1, terminator T0 (30 R90). -/
  | frameB (p0 p1 p2 p3 p4 p5 p6 p7 p8 p9 k0 k1 t0 : Byte)
  /-- STX: the start marker 0x02 taken at frame position 0 (30 R93, 40 R122). -/
  | stx
  | hex0 | hex1 | hex2 | hex3 | hex4 | hex5 | hex6 | hex7 | hex8 | hex9
  | hexUpA | hexUpB | hexUpC | hexUpD | hexUpE | hexUpF
  | hexLowA | hexLowB | hexLowC | hexLowD | hexLowE | hexLowF
  /-- NONHEX b: a byte that is no hexadecimal digit, taken where a digit is wanted (30 R93, 41 R151). -/
  | nonhex (b : Byte)
  /-- ANY b: a byte taken where no byte is examined (30 R93). -/
  | any (b : Byte)
  | readtag
  | clrbuf
  | gettag
  | install
  | uninstall
  /-- CFGWR sel, val (43 R189). -/
  | cfgwr (sel val : Nat)
  | cmdNone
  | cmdReserved
  /-- RX b: a byte arrives (40 R120). -/
  | rx (b : Byte)
  | tmo0
  | sfault
  | tmo
  | rise
  | fall
  /-- GRANT: `prefer` is taken when both requesters wait, a choice the spec leaves to the schedule
  (43 R181, 92 D8; DESIGN CHOICE of form, log 10, safe). -/
  | grant (prefer : Requester)
  | start
  | data
  | fault
  deriving DecidableEq, Repr

end Sys2Proof
end

