-- ==== Sys2Proof/Config.lean ====
section
/-! DEFINITION. The constants of the block and its open parameters (00 R7, spec/92_eei_decisions.md). -/

namespace Sys2Proof

/-- START: the byte that opens a frame (00 R7). -/
abbrev Config.startMarker : Byte := 0x02#8

/-- T_FRAME, nominal 25 ms, in microseconds (10 R33; DESIGN CHOICE, log 3, unsafe). -/
def Config.tFrame : PosDuration := ⟨25000, by decide⟩

/-- The open parameters of the block (spec/92_eei_decisions.md, "Open parameters, collected"); the grant order, the
last of them, is left to the schedule. -/
structure Config.LaunchArgs where
  /-- DATASIZE_0, the launch value of CFG.DATASIZE. -/
  datasize0 : DataSize
  /-- RXQ_0, the launch content of RXQ. -/
  rxq0 : List Byte
  /-- LINE_0, the level of the line at reset. -/
  line0 : Bool
  /-- T_FRAME, any positive duration (00 R7). -/
  tFrame : PosDuration
  /-- CH_NONBLOCK. -/
  chNonblock : Bool
  /-- LINE_PRESENT. -/
  linePresent : Bool
  deriving DecidableEq, Repr

/-- The launch arguments of the model's reset state: the default start state of spec/95_test_vectors.md
(DESIGN CHOICE, log 2 and log 4, unsafe). -/
def Config.defaultLaunch : Config.LaunchArgs :=
  { datasize0 := .d16, rxq0 := [], line0 := false, tFrame := Config.tFrame
    chNonblock := false, linePresent := true }

end Sys2Proof
end

