-- ==== Sys2Proof/Machine/Operands.lean ====
section
/-! DEFINITION. The operand forms of the block: the frame's fields by position, and the converter from ASCII
hexadecimal to binary (spec/41_hexconv.md). All functions read a frame as the list of its bytes, position 0 first. -/

namespace Sys2Proof.Machine

/-- CFG.DATASIZE as a number of bytes (10 R31). -/
def frameLen : DataSize → Nat
  | .d14 => 14
  | .d16 => 16

/-- The value of an ASCII hexadecimal character, or none for `invalid` (41 R150). -/
def hexval (c : Byte) : Option (BitVec 4) :=
  if 0x30#8 ≤ c ∧ c ≤ 0x39#8 then some (BitVec.ofNat 4 (c.toNat - 0x30))
  else if 0x41#8 ≤ c ∧ c ≤ 0x46#8 then some (BitVec.ofNat 4 (c.toNat - 0x41 + 10))
  else if 0x61#8 ≤ c ∧ c ≤ 0x66#8 then some (BitVec.ofNat 4 (c.toNat - 0x61 + 10))
  else none

/-- IsHex (41 R151). -/
def isHex (c : Byte) : Bool := (hexval c).isSome

/-- The shift-register form of the base-16 parse: each character's digit enters at the right (41 R153). -/
def shiftInHex {w : Nat} (acc : BitVec w) : List Byte → Option (BitVec w)
  | [] => some acc
  | c :: cs =>
    match hexval c with
    | some d => shiftInHex (acc <<< 4 ||| d.setWidth w) cs
    | none => none

/-- The payload characters, frame positions 1 to 10 (20 R72). -/
def payloadChars (f : List Byte) : List Byte := (f.drop 1).take 10

/-- The checksum characters, frame positions 11 and 12 (20 R72). -/
def checksumChars (f : List Byte) : List Byte := (f.drop 11).take 2

/-- The two characters of checksum chunk `j` (41 R156). -/
def chunkChars (f : List Byte) (j : Nat) : List Byte := (f.drop (1 + 2 * j)).take 2

/-- PayloadOk (41 R152). -/
def payloadOk (f : List Byte) : Bool := (payloadChars f).all isHex

/-- Payload, defined when PayloadOk (41 R153). -/
def payload (f : List Byte) : Option TagValue := shiftInHex 0 (payloadChars f)

/-- CkFieldOk (41 R154). -/
def ckFieldOk (f : List Byte) : Bool := (checksumChars f).all isHex

/-- CkRx, defined when CkFieldOk (41 R155). -/
def ckRx (f : List Byte) : Option Byte := shiftInHex 0 (checksumChars f)

/-- Chunk j, defined when its characters are digits (41 R156). -/
def chunk (f : List Byte) (j : Nat) : Option Byte := shiftInHex 0 (chunkChars f j)

end Sys2Proof.Machine
end

