-- ==== Sys2Proof/WellFormed.lean ====
section
/-! DEFINITION. Which terms of Instr are operations of the block: the operand of NONHEX is one of the 234 bytes with
no HEX_ row (41 R151); every other operand is free. CFGWR's reserved selectors and values are well-formed: the spec
gives them a meaning, they are ignored (43 R188, R189). -/

namespace Sys2Proof

/-- The check on an instruction's operands. -/
def wellFormed : Instr → Bool
  | .frameA _ _ _ _ _ _ _ _ _ _ _ _ _ _ _ => true
  | .frameB _ _ _ _ _ _ _ _ _ _ _ _ _ => true
  | .stx => true
  | .hex0 => true | .hex1 => true | .hex2 => true | .hex3 => true | .hex4 => true
  | .hex5 => true | .hex6 => true | .hex7 => true | .hex8 => true | .hex9 => true
  | .hexUpA => true | .hexUpB => true | .hexUpC => true
  | .hexUpD => true | .hexUpE => true | .hexUpF => true
  | .hexLowA => true | .hexLowB => true | .hexLowC => true
  | .hexLowD => true | .hexLowE => true | .hexLowF => true
  | .nonhex b => !Machine.isHex b
  | .any _ => true
  | .readtag => true | .clrbuf => true | .gettag => true | .install => true | .uninstall => true
  | .cfgwr _ _ => true
  | .cmdNone => true | .cmdReserved => true
  | .rx _ => true
  | .tmo0 => true | .sfault => true | .tmo => true | .rise => true | .fall => true
  | .grant _ => true
  | .start => true | .data => true | .fault => true

end Sys2Proof
end

