-- ==== Sys2Proof/Decode.lean ====
section
/-! DEFINITION. From what stands on the block's inputs to an operation, and back (spec/30_encoding.md). An operation is
selected by a command code, by a strobe, by a byte and its frame position, by a frame's bytes, or by the sequencer's
state (30 R95); `Word` holds the first four and `Ctx` the state that decoding reads. -/

namespace Sys2Proof

/-- What is presented for decoding, by the formats of spec/opcode_table.json. -/
inductive Word where
  /-- The command port: CMD[2:0] with CFGWR's operands (30 R95). -/
  | cmd (code : BitVec 3) (sel val : Nat)
  /-- A byte taken at the present frame position (30 R93). -/
  | byte (b : Byte)
  /-- The bytes of a whole frame, position 0 first (30 R90). -/
  | frame (bytes : List Byte)
  /-- The byte-valid strobe with its byte (40 R120). -/
  | byteStrobe (b : Byte)
  /-- The channel's zero-byte timeout strobe (40 R123). -/
  | tmo0Strobe
  /-- The channel's failure strobe (40 R128). -/
  | sfaultStrobe
  /-- The timer's strobe (40 R126). -/
  | tmoStrobe
  /-- The tag-in-range line changes to a level (44 R202). -/
  | level (l : Bool)
  /-- The engine's turn: its step is selected by state (30 R95); `prefer` resolves a contested grant (43 R181). -/
  | turn (prefer : Requester)
  deriving DecidableEq, Repr

/-- The part of the state that selects an operation: the sequencer, the channel fault, the frame position CNT of the
next byte, CFG.CKEN and CFG.DATASIZE (30 R93, R95). -/
structure Ctx where
  fstate : FState
  chFault : Bool
  pos : Nat
  cken : Bool
  datasize : DataSize
  deriving DecidableEq, Repr

/-- Why something presented selects no operation. -/
inductive DecodeError where
  /-- A byte is taken only by an operation in flight (00 R15). -/
  | noOperation
  /-- F_COLLECT at frame position 0, which no run reaches (10 R22). -/
  | noPosition
  /-- The bytes are not a frame of CFG.DATASIZE bytes (30 R91). -/
  | wrongLength
  /-- The first byte of the frame is not the start marker (30 R90). -/
  | notStartMarker
  deriving DecidableEq, Repr

/-- A hexadecimal digit is wanted at this position: 1 to 10 always, 11 and 12 when CFG.CKEN = 1 (30 R93). -/
abbrev Ctx.wantsDigit (c : Ctx) : Prop :=
  (1 ≤ c.pos ∧ c.pos ≤ 10) ∨ ((c.pos = 11 ∨ c.pos = 12) ∧ c.cken = true)

/-- The byte at this position is taken and ignored: 13 and above, 11 and 12 when CFG.CKEN = 0 (30 R93). -/
abbrev Ctx.ignoresByte (c : Ctx) : Prop :=
  13 ≤ c.pos ∨ ((c.pos = 11 ∨ c.pos = 12) ∧ c.cken = false)

/-- The HEX_ row of a byte, if it has one: the 22 codes of 41 R150. -/
def hexRow (b : Byte) : Option Instr :=
  match b.toNat with
  | 0x30 => some .hex0
  | 0x31 => some .hex1
  | 0x32 => some .hex2
  | 0x33 => some .hex3
  | 0x34 => some .hex4
  | 0x35 => some .hex5
  | 0x36 => some .hex6
  | 0x37 => some .hex7
  | 0x38 => some .hex8
  | 0x39 => some .hex9
  | 0x41 => some .hexUpA
  | 0x42 => some .hexUpB
  | 0x43 => some .hexUpC
  | 0x44 => some .hexUpD
  | 0x45 => some .hexUpE
  | 0x46 => some .hexUpF
  | 0x61 => some .hexLowA
  | 0x62 => some .hexLowB
  | 0x63 => some .hexLowC
  | 0x64 => some .hexLowD
  | 0x65 => some .hexLowE
  | 0x66 => some .hexLowF
  | _ => none

/-- The row of a byte where a digit is wanted: its HEX_ row, or NONHEX (30 R93). -/
def digitRow (b : Byte) : Instr :=
  match hexRow b with
  | some i => i
  | none => .nonhex b

/-- The operation of a byte by the position at which it is taken (30 R93). A byte other than 0x02 at position 0 has no
byte row: the START step takes it (40 R122). -/
def decodeByte (c : Ctx) (b : Byte) : Except DecodeError Instr :=
  match c.fstate with
  | .idle => .error .noOperation
  | .start => if b = Config.startMarker then .ok .stx else .ok .start
  | .collect =>
    if c.wantsDigit then .ok (digitRow b)
    else if c.ignoresByte then .ok (.any b)
    else .error .noPosition

/-- The operation of a whole frame, by CFG.DATASIZE (30 R90, R97). -/
def decodeFrame (d : DataSize) (bytes : List Byte) : Except DecodeError Instr :=
  match d, bytes with
  | .d16, [s, p0, p1, p2, p3, p4, p5, p6, p7, p8, p9, k0, k1, t0, t1, t2] =>
    if s = Config.startMarker then .ok (.frameA p0 p1 p2 p3 p4 p5 p6 p7 p8 p9 k0 k1 t0 t1 t2)
    else .error .notStartMarker
  | .d14, [s, p0, p1, p2, p3, p4, p5, p6, p7, p8, p9, k0, k1, t0] =>
    if s = Config.startMarker then .ok (.frameB p0 p1 p2 p3 p4 p5 p6 p7 p8 p9 k0 k1 t0)
    else .error .notStartMarker
  | _, _ => .error .wrongLength

/-- The host command of a code (30 R95, R96). -/
def decodeCmd (code : BitVec 3) (sel val : Nat) : Instr :=
  match code.toNat with
  | 0 => .cmdNone
  | 1 => .readtag
  | 2 => .clrbuf
  | 3 => .gettag
  | 4 => .install
  | 5 => .uninstall
  | 6 => .cfgwr sel val
  | _ => .cmdReserved

/-- The engine's step, selected by state (30 R95): the channel fault goes before buffered bytes (60 R235 (b)). -/
def engineRow (c : Ctx) (prefer : Requester) : Instr :=
  match c.fstate, c.chFault with
  | .idle, _ => .grant prefer
  | _, true => .fault
  | .start, false => .start
  | .collect, false => .data

/-- The decoder. -/
def decode (c : Ctx) : Word → Except DecodeError Instr
  | .cmd code sel val => .ok (decodeCmd code sel val)
  | .byte b => decodeByte c b
  | .frame bytes => decodeFrame c.datasize bytes
  | .byteStrobe b => .ok (.rx b)
  | .tmo0Strobe => .ok .tmo0
  | .sfaultStrobe => .ok .sfault
  | .tmoStrobe => .ok .tmo
  | .level true => .ok .rise
  | .level false => .ok .fall
  | .turn p => .ok (engineRow c p)

/-- The word of an operation, from the same tables. -/
def encode : Instr → Word
  | .frameA p0 p1 p2 p3 p4 p5 p6 p7 p8 p9 k0 k1 t0 t1 t2 =>
    .frame [Config.startMarker, p0, p1, p2, p3, p4, p5, p6, p7, p8, p9, k0, k1, t0, t1, t2]
  | .frameB p0 p1 p2 p3 p4 p5 p6 p7 p8 p9 k0 k1 t0 =>
    .frame [Config.startMarker, p0, p1, p2, p3, p4, p5, p6, p7, p8, p9, k0, k1, t0]
  | .stx => .byte Config.startMarker
  | .hex0 => .byte 0x30#8
  | .hex1 => .byte 0x31#8
  | .hex2 => .byte 0x32#8
  | .hex3 => .byte 0x33#8
  | .hex4 => .byte 0x34#8
  | .hex5 => .byte 0x35#8
  | .hex6 => .byte 0x36#8
  | .hex7 => .byte 0x37#8
  | .hex8 => .byte 0x38#8
  | .hex9 => .byte 0x39#8
  | .hexUpA => .byte 0x41#8
  | .hexUpB => .byte 0x42#8
  | .hexUpC => .byte 0x43#8
  | .hexUpD => .byte 0x44#8
  | .hexUpE => .byte 0x45#8
  | .hexUpF => .byte 0x46#8
  | .hexLowA => .byte 0x61#8
  | .hexLowB => .byte 0x62#8
  | .hexLowC => .byte 0x63#8
  | .hexLowD => .byte 0x64#8
  | .hexLowE => .byte 0x65#8
  | .hexLowF => .byte 0x66#8
  | .nonhex b => .byte b
  | .any b => .byte b
  | .readtag => .cmd 1#3 0 0
  | .clrbuf => .cmd 2#3 0 0
  | .gettag => .cmd 3#3 0 0
  | .install => .cmd 4#3 0 0
  | .uninstall => .cmd 5#3 0 0
  | .cfgwr sel val => .cmd 6#3 sel val
  | .cmdNone => .cmd 0#3 0 0
  | .cmdReserved => .cmd 7#3 0 0
  | .rx b => .byteStrobe b
  | .tmo0 => .tmo0Strobe
  | .sfault => .sfaultStrobe
  | .tmo => .tmoStrobe
  | .rise => .level true
  | .fall => .level false
  | .grant p => .turn p
  | .start => .turn .host
  | .data => .turn .host
  | .fault => .turn .host

/-- The columns "selected_by" and "used_at" of spec/opcode_table.json: the contexts in which a row's word stands for
that row. Host commands and environment events have no condition. -/
abbrev Ctx.selects (c : Ctx) : Instr → Prop
  | .frameA _ _ _ _ _ _ _ _ _ _ _ _ _ _ _ => c.datasize = .d16
  | .frameB _ _ _ _ _ _ _ _ _ _ _ _ _ => c.datasize = .d14
  | .stx => c.fstate = .start
  | .hex0 => c.fstate = .collect ∧ c.wantsDigit
  | .hex1 => c.fstate = .collect ∧ c.wantsDigit
  | .hex2 => c.fstate = .collect ∧ c.wantsDigit
  | .hex3 => c.fstate = .collect ∧ c.wantsDigit
  | .hex4 => c.fstate = .collect ∧ c.wantsDigit
  | .hex5 => c.fstate = .collect ∧ c.wantsDigit
  | .hex6 => c.fstate = .collect ∧ c.wantsDigit
  | .hex7 => c.fstate = .collect ∧ c.wantsDigit
  | .hex8 => c.fstate = .collect ∧ c.wantsDigit
  | .hex9 => c.fstate = .collect ∧ c.wantsDigit
  | .hexUpA => c.fstate = .collect ∧ c.wantsDigit
  | .hexUpB => c.fstate = .collect ∧ c.wantsDigit
  | .hexUpC => c.fstate = .collect ∧ c.wantsDigit
  | .hexUpD => c.fstate = .collect ∧ c.wantsDigit
  | .hexUpE => c.fstate = .collect ∧ c.wantsDigit
  | .hexUpF => c.fstate = .collect ∧ c.wantsDigit
  | .hexLowA => c.fstate = .collect ∧ c.wantsDigit
  | .hexLowB => c.fstate = .collect ∧ c.wantsDigit
  | .hexLowC => c.fstate = .collect ∧ c.wantsDigit
  | .hexLowD => c.fstate = .collect ∧ c.wantsDigit
  | .hexLowE => c.fstate = .collect ∧ c.wantsDigit
  | .hexLowF => c.fstate = .collect ∧ c.wantsDigit
  | .nonhex _ => c.fstate = .collect ∧ c.wantsDigit
  | .any _ => c.fstate = .collect ∧ c.ignoresByte
  | .readtag => True
  | .clrbuf => True
  | .gettag => True
  | .install => True
  | .uninstall => True
  | .cfgwr _ _ => True
  | .cmdNone => True
  | .cmdReserved => True
  | .rx _ => True
  | .tmo0 => True
  | .sfault => True
  | .tmo => True
  | .rise => True
  | .fall => True
  | .grant _ => c.fstate = .idle
  | .start => c.fstate = .start ∧ c.chFault = false
  | .data => c.fstate = .collect ∧ c.chFault = false
  | .fault => c.fstate ≠ .idle ∧ c.chFault = true

/-- The `n` bytes of a number, most significant first: frame position 0 is the top byte (30 R90). -/
def bytesOfNat : Nat → Nat → List Byte
  | 0, _ => []
  | n + 1, w => BitVec.ofNat 8 (w >>> (8 * n)) :: bytesOfNat n w

/-- A table word as a word of the block (DESIGN CHOICE, log 11, safe): 112 and 128 bits are frames, position 0 in the top byte;
fewer than 8 bits are a command code; of 8 bits, a value that fits the command port's 3 bits is a command code, but
for 0x02, which is the byte row STX; the other bytes are byte rows. -/
def tableWord (nbits w : Nat) : Option Word :=
  if nbits = 128 then some (.frame (bytesOfNat 16 w))
  else if nbits = 112 then some (.frame (bytesOfNat 14 w))
  else if nbits < 8 then (if w < 8 then some (.cmd (BitVec.ofNat 3 w) 0 0) else none)
  else if nbits = 8 then
    (if w < 8 ∧ w ≠ 2 then some (.cmd (BitVec.ofNat 3 w) 0 0)
     else if w < 256 then some (.byte (BitVec.ofNat 8 w)) else none)
  else none

/-- The context in which a table word is read: STX and frames at frame position 0, other bytes at position 1, frames
under their own CFG.DATASIZE. -/
def tableCtx (nbits w : Nat) : Ctx :=
  { fstate := if nbits = 8 ∧ w ≠ 2 then .collect else .start
    chFault := false
    pos := if nbits = 8 ∧ w ≠ 2 then 1 else 0
    cken := true
    datasize := if nbits = 112 then .d14 else .d16 }

/-- The instruction the decoder reads from a word of spec/opcode_table.json, bits numbered as the table numbers them. -/
def decodeTableWord (nbits w : Nat) : Option Instr :=
  match tableWord nbits w with
  | some x => (decode (tableCtx nbits w) x).toOption
  | none => none

end Sys2Proof
end

