-- ==== Sys2Proof/Machine/State.lean ====
section
/-! DEFINITION. The state of the block (10 R20), its launch and reset values (70 R260), and the schedule and output log
through which a run of it is stated. -/

namespace Sys2Proof.Machine

/-- OWNER: for whom the operation in flight runs (10 R26). -/
inductive Owner where
  | none
  | host
  | mon
  deriving DecidableEq, Repr

/-- HREQ: the host request slot (10 R40). -/
inductive HReq where
  | none
  | readtag
  | clrbuf
  deriving DecidableEq, Repr

/-- PSTATE: the presence monitor's state (10 R28). -/
inductive PState where
  | idle
  | present
  deriving DecidableEq, Repr

/-- An element of EVQ: a detected edge whose action has not been granted (10 R43). -/
inductive Edge where
  | rise
  | fall
  deriving DecidableEq, Repr

/-- The five error kinds (00 R12, 60 R231). The first four are the framing kinds. -/
inductive ErrKind where
  | incompleteFrame
  | badStartMarker
  | malformedPayload
  | checksumMismatch
  | streamFault
  deriving DecidableEq, Repr

/-- The result of a decode operation (00 R12). -/
inductive DecRes where
  | ok (v : TagValue)
  | err (k : ErrKind)
  deriving DecidableEq, Repr

/-- RESULT.KIND: Ok or an error kind; the codes 6 and 7 are never produced (60 R231, 30 R96). -/
inductive ResultKind where
  | ok
  | err (k : ErrKind)
  deriving DecidableEq, Repr

/-- The host-visible registers CR0 to CR5 (10 R30). -/
inductive CReg where
  | cfg
  | tframe
  | status
  | resultKind
  | resultValue
  | tag
  deriving DecidableEq, Repr

/-- The output events (00 R11, 92 D24), and the values that GETTAG and register reads return to the host. -/
inductive Output where
  /-- DONE(res): a host READTAG completed (40 R130). -/
  | done (res : DecRes)
  /-- CLRDONE: a host CLRBUF completed (43 R185). -/
  | clrDone
  /-- TAGUPD(v): the monitor wrote TAG (44 R210). -/
  | tagUpd (v : TagValue)
  /-- The value GETTAG returned (43 R186). -/
  | gotTag (v : TagValue)
  /-- The value a read of a register returned (43 R190). -/
  | regRead (r : CReg) (v : Nat)
  deriving DecidableEq, Repr

/-- What one item of the schedule asks of the block: an input from the host, the channel, the timer or the line, or a
turn of the engine (00 R8, R13, 30 R95, R98). DESIGN CHOICE (log 1, safe). -/
inductive Signal where
  /-- A host command: CMD[2:0] with CFGWR's operands. -/
  | cmd (code : BitVec 3) (sel val : Nat)
  /-- A read of a host-visible register (43 R190). -/
  | readReg (r : CReg)
  /-- Reset, with the launch arguments of the new life of the block (70 R262, R283). -/
  | reset (args : Config.LaunchArgs)
  /-- A byte arrives. -/
  | rx (b : Byte)
  | tmo0
  | sfault
  | tmo
  /-- The tag-in-range line changes to a level. -/
  | level (l : Bool)
  /-- One turn of the engine: its enabled step, if there is one. -/
  | engine (prefer : Requester)
  /-- `run` of 30 R98: the engine takes enabled steps until none is enabled, one per machine step. -/
  | run (prefer : Requester)
  /-- One turn of the engine named by the byte it takes: the byte rows (30 R93). -/
  | takeByte
  /-- The engine's turns through a whole frame: FRAME_A, FRAME_B (30 R90). -/
  | takeFrame
  deriving DecidableEq, Repr

/-- One item of the schedule: the time that passes before it, and the signal. -/
structure Item where
  after : Duration
  signal : Signal
  deriving DecidableEq, Repr

/-- The reasons the block stops. There is none: the spec has no event that stops it; decode errors are results
(60 R233) and a blocked operation waits (40 R129). -/
inductive Fault where
  deriving DecidableEq, Repr

/-- The reasons an instruction has no meaning. -/
inductive Refusal where
  /-- Raised by exec's arms for an instruction that has no meaning yet; no arm raises it. Safe. -/
  | notModelled (mnemonic : String)
  deriving DecidableEq, Repr

/-- The complete state of the block and of its two interfaces (10 R20), the platform constants (00 R7), and the model's
own schedule and output log. -/
structure State where
  /-- CFG.DATASIZE (10 R31): only the two legal values (DEDUCED, log 13, safe). -/
  datasize : DataSize
  /-- CFG.CKEN (10 R32). -/
  cken : Bool
  /-- CFG.TFRAME, a positive duration (10 R30, R33): launch and CFGWR put no other value in it, so every step keeps it so. -/
  tframe : Duration
  /-- FSTATE (10 R25). -/
  fstate : FState
  /-- OWNER (10 R26). -/
  owner : Owner
  /-- CNT, the number of frame bytes taken, 0 to 16 (10 R22); a Nat (DEDUCED, log 13, safe). -/
  cnt : Nat
  /-- FB[0..15] (10 R21). -/
  fb : Vector Byte 16
  /-- TMR, the time since F_COLLECT was entered (10 R44). -/
  tmr : Duration
  /-- HREQ (10 R40). -/
  hreq : HReq
  /-- RESULT.VALID (10 R34). -/
  resValid : Bool
  /-- RESULT.KIND (10 R34). -/
  resKind : ResultKind
  /-- RESULT.VALUE (10 R34). -/
  resValue : TagValue
  /-- MON_EN (10 R41). -/
  monEn : Bool
  /-- PSTATE (10 R28). -/
  pstate : PState
  /-- LINE_Q (10 R42). -/
  lineQ : Bool
  /-- EVQ, oldest first (10 R43). -/
  evq : List Edge
  /-- TAG (10 R35). -/
  tag : TagValue
  /-- RXQ, oldest first (10 R45). -/
  rxq : List Byte
  /-- CH_FAULT (10 R46). -/
  chFault : Bool
  /-- LINE (10 R48). -/
  line : Bool
  /-- CH_NONBLOCK, a platform constant (00 R7). DESIGN CHOICE of place (log 2, safe). -/
  chNonblock : Bool
  /-- LINE_PRESENT, a platform constant (00 R7). DESIGN CHOICE of place (log 2, safe). -/
  linePresent : Bool
  /-- The model's own: the schedule still to be carried out (log 1). -/
  trace : List Item
  /-- The model's own: the output events so far, oldest first (log 6). -/
  outs : List Output
  deriving DecidableEq, Repr

/-- The block at launch (70 R260): the values the rule gives, the launch arguments where it leaves them open, and 0
where it calls a value unspecified (CNT, FB, TMR, LINE_Q; DESIGN CHOICE, log 5, unsafe). -/
def State.launch (a : Config.LaunchArgs) : State :=
  { datasize := a.datasize0, cken := true, tframe := a.tFrame.val
    fstate := .idle, owner := .none, cnt := 0, fb := Vector.replicate 16 0#8, tmr := 0
    hreq := .none, resValid := false, resKind := .ok, resValue := 0
    monEn := false, pstate := .idle, lineQ := false, evq := [], tag := 0
    rxq := a.rxq0, chFault := false, line := a.line0
    chNonblock := a.chNonblock, linePresent := a.linePresent
    trace := [], outs := [] }

/-- The machine right after reset, with the launch arguments the model names (log 2, 3, 4). -/
def State.reset : State := State.launch Config.defaultLaunch

/-- What decoding reads of the state. -/
abbrev State.ctx (s : State) : Ctx :=
  { fstate := s.fstate, chFault := s.chFault, pos := s.cnt, cken := s.cken, datasize := s.datasize }

end Sys2Proof.Machine
end

