-- ==== Sys2Proof/Machine/Flags.lean ====
section
/-! DEFINITION. The validator (spec/42_checksum.md), the check of a complete frame (40 R125), and the codes and
host-visible registers that show the block's flags (10 R29, R30, 60 R231). -/

namespace Sys2Proof.Machine

/-- CkCalc, the XOR of the five chunks starting from 0 (42 R166); none when a chunk is not hexadecimal. -/
def ckCalc (f : List Byte) : Option Byte := do
  let c0 ← chunk f 0
  let c1 ← chunk f 1
  let c2 ← chunk f 2
  let c3 ← chunk f 3
  let c4 ← chunk f 4
  return c0 ^^^ c1 ^^^ c2 ^^^ c3 ^^^ c4

/-- validate() as a function of the frame's bytes and CFG.CKEN (40 R125): the payload is checked first, then, when
enabled, the checksum field, then the checksum. -/
def checkFrame (f : List Byte) (cken : Bool) : DecRes :=
  match payload f with
  | none => .err .malformedPayload
  | some v =>
    if cken then
      match ckRx f with
      | none => .err .checksumMismatch
      | some r => if ckCalc f = some r then .ok v else .err .checksumMismatch
    else .ok v

/-- The kind of a result (60 R231). -/
def resultKind : DecRes → ResultKind
  | .ok _ => .ok
  | .err k => .err k

/-- RESULT.VALUE of a result: the tag value, 0 for every error (10 R34). -/
def resultValue : DecRes → TagValue
  | .ok v => v
  | .err _ => 0

/-- The 3-bit code of RESULT.KIND (60 R231). -/
def kindCode : ResultKind → BitVec 3
  | .ok => 0
  | .err .incompleteFrame => 1
  | .err .badStartMarker => 2
  | .err .malformedPayload => 3
  | .err .checksumMismatch => 4
  | .err .streamFault => 5

/-- The encoding of FSTATE (10 R25). -/
def fstateCode : FState → BitVec 2
  | .idle => 0
  | .start => 1
  | .collect => 2

/-- The encoding of OWNER (10 R30). -/
def ownerCode : Owner → BitVec 2
  | .none => 0
  | .host => 1
  | .mon => 2

/-- The encoding of HREQ (10 R30). -/
def hreqCode : HReq → BitVec 2
  | .none => 0
  | .readtag => 1
  | .clrbuf => 2

/-- The encoding of PSTATE (10 R28). -/
def pstateCode : PState → BitVec 1
  | .idle => 0
  | .present => 1

/-- CR0 CFG: DATASIZE in [4:0], CKEN in [8] (10 R30). -/
def cr0 (s : State) : BitVec 9 :=
  BitVec.ofBool s.cken ++ 0#3 ++ BitVec.ofNat 5 (frameLen s.datasize)

/-- CR2 STATUS: FSTATE [1:0], OWNER [3:2], CH_FAULT [4], MON_EN [5], PSTATE [6], HREQ [9:8] (10 R30). -/
def cr2 (s : State) : BitVec 10 :=
  hreqCode s.hreq ++ 0#1 ++ pstateCode s.pstate ++ BitVec.ofBool s.monEn ++ BitVec.ofBool s.chFault ++
    ownerCode s.owner ++ fstateCode s.fstate

/-- CR3 RESULT_KIND: KIND [2:0], VALID [7] (10 R30). -/
def cr3 (s : State) : BitVec 8 :=
  BitVec.ofBool s.resValid ++ 0#4 ++ kindCode s.resKind

/-- The value a host read of a register returns, as a number; unused bits read as 0 (10 R30, 43 R190). -/
def readReg (r : CReg) (s : State) : Nat :=
  match r with
  | .cfg => (cr0 s).toNat
  | .tframe => s.tframe
  | .status => (cr2 s).toNat
  | .resultKind => (cr3 s).toNat
  | .resultValue => s.resValue.toNat
  | .tag => s.tag.toNat

end Sys2Proof.Machine
end

