-- ==== Sys2Proof/Machine/Ops.lean ====
section
/-! DEFINITION. The operations the instructions share: the receive queue, completion, raising an error (60 R236, R237:
ONE operation, raiseErr), the gate's grants, the START and DATA steps, and the edge detector. There is no return from
an error because there is no handler (60 R238). -/

namespace Sys2Proof.Machine

/-- RxFlush() (00 R11, 20 R82). -/
def rxFlush (s : State) : State := { s with rxq := [] }

/-- emit E (00 R11); the output log is the model's own (log 6). -/
def emit (o : Output) (s : State) : State := { s with outs := s.outs ++ [o] }

/-- MonComplete(res) (44 R207): every error stores 0, and PSTATE becomes Present whatever the result. -/
def monComplete (res : DecRes) (s : State) : State :=
  emit (.tagUpd (resultValue res)) { s with tag := resultValue res, pstate := .present }

/-- The host's part of complete(res) (40 R130). -/
def hostComplete (res : DecRes) (s : State) : State :=
  emit (.done res)
    { s with resValid := true, resKind := resultKind res, resValue := resultValue res, hreq := .none }

/-- complete(res) (40 R130): the result goes to the owner, and the engine is idle. CNT, FB and TMR are left. -/
def complete (res : DecRes) (s : State) : State :=
  let t := match s.owner with
    | .host => hostComplete res s
    | .mon => monComplete res s
    | .none => s
  { t with owner := .none, fstate := .idle }

/-- raise K: the one operation by which an error is taken. A framing kind discards the buffered input (60 R236);
StreamFault does not (60 R237). -/
def raiseErr (k : ErrKind) (s : State) : State :=
  match k with
  | .streamFault => complete (.err .streamFault) s
  | k => complete (.err k) (rxFlush s)

/-- The end of validate(): success is delivered without a flush, an error is raised (40 R125). -/
def finishFrame (s : State) : State :=
  match checkFrame s.fb.toList s.cken with
  | .ok v => complete (.ok v) s
  | .err k => raiseErr k s

/-- The START step is enabled (40 R122). -/
abbrev StartEnabled (s : State) : Prop := s.fstate = .start ∧ s.chFault = false ∧ s.rxq ≠ []

/-- The DATA step is enabled (40 R124). -/
abbrev DataEnabled (s : State) : Prop :=
  s.fstate = .collect ∧ s.chFault = false ∧ s.cnt < frameLen s.datasize ∧ s.rxq ≠ []

/-- The FAULT step is enabled (40 R127). -/
abbrev FaultEnabled (s : State) : Prop := s.fstate ≠ .idle ∧ s.chFault = true

/-- The GRANT step is enabled (43 R181). -/
abbrev GrantEnabled (s : State) : Prop := s.fstate = .idle ∧ (s.hreq ≠ .none ∨ s.evq ≠ [])

/-- Some engine step is enabled. -/
abbrev EngineEnabled (s : State) : Prop :=
  GrantEnabled s ∨ StartEnabled s ∨ DataEnabled s ∨ FaultEnabled s

/-- The conditions of the TMO event other than the time (40 R126, 70 R276). -/
abbrev TmoReady (s : State) : Prop :=
  s.fstate = .collect ∧ s.chFault = false ∧ s.cnt < frameLen s.datasize ∧ s.rxq = []

/-- The conditions of the TMO0 event (40 R123). -/
abbrev Tmo0Enabled (s : State) : Prop :=
  s.chNonblock = true ∧ s.fstate = .start ∧ s.chFault = false ∧ s.rxq = []

/-- The START step (40 R122); no effect while it is not enabled (log 9). -/
def startStep (s : State) : State :=
  match s.rxq with
  | [] => s
  | b :: r =>
    if s.fstate = .start ∧ s.chFault = false then
      if b = Config.startMarker then
        { s with rxq := r, fb := s.fb.set 0 b, cnt := 1, tmr := 0, fstate := .collect }
      else raiseErr .badStartMarker { s with rxq := r }
    else s

/-- The DATA step (40 R124); no effect while it is not enabled (log 9). -/
def dataStep (s : State) : State :=
  match s.rxq with
  | [] => s
  | b :: r =>
    if s.fstate = .collect ∧ s.chFault = false ∧ s.cnt < frameLen s.datasize then
      let t := { s with rxq := r, fb := s.fb.setIfInBounds s.cnt b, cnt := s.cnt + 1 }
      if s.cnt + 1 = frameLen s.datasize then finishFrame t else t
    else s

/-- The FAULT step (40 R127); no effect while it is not enabled (log 9). -/
def faultStep (s : State) : State :=
  if FaultEnabled s then raiseErr .streamFault s else s

/-- `n` DATA steps in a row. -/
def dataSteps : Nat → State → State
  | 0, s => s
  | n + 1, s => dataSteps n (dataStep s)

/-- The START and DATA steps of a whole frame whose bytes are `f`, nothing between them (43 R182 example); no effect
unless the engine waits at frame position 0 and those bytes are the front of RXQ (log 8, log 9). -/
def wholeFrame (d : DataSize) (f : List Byte) (s : State) : State :=
  if s.fstate = .start ∧ s.chFault = false ∧ s.datasize = d ∧ s.rxq.take (frameLen d) = f then
    dataSteps (frameLen d - 1) (startStep s)
  else s

/-- The DATA step named by the byte it takes, where a digit is wanted (30 R93; log 7). -/
def takeDigit (b : Byte) (s : State) : State :=
  if s.fstate = .collect ∧ s.ctx.wantsDigit ∧ s.rxq.head? = some b then dataStep s else s

/-- The DATA step named by the byte it takes, where the byte is not examined (30 R93; log 7). -/
def takeAny (b : Byte) (s : State) : State :=
  if s.fstate = .collect ∧ s.ctx.ignoresByte ∧ s.rxq.head? = some b then dataStep s else s

/-- The START step named by the start marker it takes (30 R93; log 7). -/
def takeStx (s : State) : State :=
  if s.fstate = .start ∧ s.rxq.head? = some Config.startMarker then startStep s else s

/-- A decode operation begins for an owner: GrantHostRead() (43 R182) and RiseAction() (44 R206). A channel that has
failed ends it in the same step. -/
def beginDecode (o : Owner) (s : State) : State :=
  let t := { s with owner := o }
  if s.chFault then raiseErr .streamFault t else { t with cnt := 0, fstate := .start }

/-- GrantHostClear() (43 R185). -/
def grantHostClear (s : State) : State := emit .clrDone { rxFlush s with hreq := .none }

/-- The grant of the host request (43 R181, R182, R185). -/
def grantHost (s : State) : State :=
  match s.hreq with
  | .none => s
  | .readtag => beginDecode .host s
  | .clrbuf => grantHostClear s

/-- FallAction() (44 R208). -/
def fallAction (s : State) : State :=
  emit (.tagUpd 0) { rxFlush s with tag := 0, pstate := .idle }

/-- GrantMonitor() (44 R205): the oldest edge. -/
def grantMonitor (s : State) : State :=
  match s.evq with
  | [] => s
  | .rise :: r => beginDecode .mon { s with evq := r }
  | .fall :: r => fallAction { s with evq := r }

/-- The request a grant takes up: the only one waiting, or the preferred one when both wait (43 R181; log 10). -/
def chooseRequest (prefer : Requester) (s : State) : Option Requester :=
  if s.hreq ≠ .none then
    (if s.evq ≠ [] then some prefer else some .host)
  else (if s.evq ≠ [] then some .mon else none)

/-- The GRANT step (43 R181); no effect while it is not enabled (log 9). -/
def grantStep (prefer : Requester) (s : State) : State :=
  if s.fstate = .idle then
    match chooseRequest prefer s with
    | some .host => grantHost s
    | some .mon => grantMonitor s
    | none => s
  else s

/-- A READTAG or CLRBUF command posts its request, or is refused while one is outstanding (43 R180, R184, R187). -/
def postRequest (r : HReq) (s : State) : State :=
  if s.hreq = .none then { s with hreq := r } else s

/-- The edge a level change is, against the level last seen (44 R202). -/
def edgeOf (lineQ l : Bool) : List Edge :=
  match lineQ, l with
  | false, true => [.rise]
  | true, false => [.fall]
  | _, _ => []

/-- LINE l (44 R202): a level equal to the present one is no event (DEDUCED, log 14, safe). -/
def lineStep (l : Bool) (s : State) : State :=
  if l = s.line then s
  else if s.monEn then { s with line := l, evq := s.evq ++ edgeOf s.lineQ l, lineQ := l }
  else { s with line := l }

end Sys2Proof.Machine
end

