-- ==== Sys2Proof/Machine/ByteRows.lean ====
section
/-! DEFINITION. The byte rows (30 R93, 41 R150, R151): the engine takes the front byte of RXQ, that byte being of the
row's class at the present frame position. The effect is that of the START step (40 R122) for STX and of the DATA step
(40 R124) for the others; a row that does not describe the byte to be taken has no effect (log 7, log 9). -/

namespace Sys2Proof.Machine

/-- STX: the start marker at frame position 0 (40 R122). -/
def execStx (s : State) : Host.Outcome State Fault Refusal := .next (takeStx s)

/-- HEX_0: the digit 0x30 (41 R150). -/
def execHex0 (s : State) : Host.Outcome State Fault Refusal := .next (takeDigit 0x30#8 s)

/-- HEX_1: the digit 0x31 (41 R150). -/
def execHex1 (s : State) : Host.Outcome State Fault Refusal := .next (takeDigit 0x31#8 s)

/-- HEX_2: the digit 0x32 (41 R150). -/
def execHex2 (s : State) : Host.Outcome State Fault Refusal := .next (takeDigit 0x32#8 s)

/-- HEX_3: the digit 0x33 (41 R150). -/
def execHex3 (s : State) : Host.Outcome State Fault Refusal := .next (takeDigit 0x33#8 s)

/-- HEX_4: the digit 0x34 (41 R150). -/
def execHex4 (s : State) : Host.Outcome State Fault Refusal := .next (takeDigit 0x34#8 s)

/-- HEX_5: the digit 0x35 (41 R150). -/
def execHex5 (s : State) : Host.Outcome State Fault Refusal := .next (takeDigit 0x35#8 s)

/-- HEX_6: the digit 0x36 (41 R150). -/
def execHex6 (s : State) : Host.Outcome State Fault Refusal := .next (takeDigit 0x36#8 s)

/-- HEX_7: the digit 0x37 (41 R150). -/
def execHex7 (s : State) : Host.Outcome State Fault Refusal := .next (takeDigit 0x37#8 s)

/-- HEX_8: the digit 0x38 (41 R150). -/
def execHex8 (s : State) : Host.Outcome State Fault Refusal := .next (takeDigit 0x38#8 s)

/-- HEX_9: the digit 0x39 (41 R150). -/
def execHex9 (s : State) : Host.Outcome State Fault Refusal := .next (takeDigit 0x39#8 s)

/-- HEX_A: the digit 0x41 (41 R150). -/
def execHexUpA (s : State) : Host.Outcome State Fault Refusal := .next (takeDigit 0x41#8 s)

/-- HEX_B: the digit 0x42 (41 R150). -/
def execHexUpB (s : State) : Host.Outcome State Fault Refusal := .next (takeDigit 0x42#8 s)

/-- HEX_C: the digit 0x43 (41 R150). -/
def execHexUpC (s : State) : Host.Outcome State Fault Refusal := .next (takeDigit 0x43#8 s)

/-- HEX_D: the digit 0x44 (41 R150). -/
def execHexUpD (s : State) : Host.Outcome State Fault Refusal := .next (takeDigit 0x44#8 s)

/-- HEX_E: the digit 0x45 (41 R150). -/
def execHexUpE (s : State) : Host.Outcome State Fault Refusal := .next (takeDigit 0x45#8 s)

/-- HEX_F: the digit 0x46 (41 R150). -/
def execHexUpF (s : State) : Host.Outcome State Fault Refusal := .next (takeDigit 0x46#8 s)

/-- HEX_a: the digit 0x61 (41 R150). -/
def execHexLowA (s : State) : Host.Outcome State Fault Refusal := .next (takeDigit 0x61#8 s)

/-- HEX_b: the digit 0x62 (41 R150). -/
def execHexLowB (s : State) : Host.Outcome State Fault Refusal := .next (takeDigit 0x62#8 s)

/-- HEX_c: the digit 0x63 (41 R150). -/
def execHexLowC (s : State) : Host.Outcome State Fault Refusal := .next (takeDigit 0x63#8 s)

/-- HEX_d: the digit 0x64 (41 R150). -/
def execHexLowD (s : State) : Host.Outcome State Fault Refusal := .next (takeDigit 0x64#8 s)

/-- HEX_e: the digit 0x65 (41 R150). -/
def execHexLowE (s : State) : Host.Outcome State Fault Refusal := .next (takeDigit 0x65#8 s)

/-- HEX_f: the digit 0x66 (41 R150). -/
def execHexLowF (s : State) : Host.Outcome State Fault Refusal := .next (takeDigit 0x66#8 s)

/-- NONHEX b: a byte that is no digit, where a digit is wanted (41 R151). It is stored like a digit; the error is
raised when the frame is complete (40 R124 (a), R125). -/
def execNonhex (b : Byte) (s : State) : Host.Outcome State Fault Refusal :=
  .next (if isHex b then s else takeDigit b s)

/-- ANY b: a byte that is not examined (30 R93). -/
def execAny (b : Byte) (s : State) : Host.Outcome State Fault Refusal := .next (takeAny b s)

end Sys2Proof.Machine
end

