-- ==== Sys2Proof/Machine/Engine.lean ====
section
/-! DEFINITION. The engine steps (43 R181, 40 R122, R124, R127). -/

namespace Sys2Proof.Machine

/-- GRANT (43 R181). -/
def execGrant (prefer : Requester) (s : State) : Host.Outcome State Fault Refusal :=
  .next (grantStep prefer s)

/-- START (40 R122). -/
def execStart (s : State) : Host.Outcome State Fault Refusal := .next (startStep s)

/-- DATA (40 R124). -/
def execData (s : State) : Host.Outcome State Fault Refusal := .next (dataStep s)

/-- FAULT (40 R127). -/
def execFault (s : State) : Host.Outcome State Fault Refusal := .next (faultStep s)

end Sys2Proof.Machine
end

