-- ==== Sys2Proof/Machine/Events.lean ====
section
/-! DEFINITION. The environment events: channel (40 R120, R123, R128), timer (40 R126) and line (44 R202). -/

namespace Sys2Proof.Machine

/-- RX b (40 R120): accepted in every state. -/
def execRx (b : Byte) (s : State) : Host.Outcome State Fault Refusal :=
  .next { s with rxq := s.rxq ++ [b] }

/-- TMO0 (40 R123): no effect in any other state (92 D11). -/
def execTmo0 (s : State) : Host.Outcome State Fault Refusal :=
  .next (if Tmo0Enabled s then complete (.ok 0) s else s)

/-- SFAULT (40 R128). -/
def execSfault (s : State) : Host.Outcome State Fault Refusal := .next { s with chFault := true }

/-- TMO (40 R126), in the timed reading; no effect while it is not enabled (log 9). -/
def execTmo (s : State) : Host.Outcome State Fault Refusal :=
  .next (if TmoReady s ∧ s.tframe ≤ s.tmr then raiseErr .incompleteFrame s else s)

/-- RISE: the line goes high (44 R202). -/
def execRise (s : State) : Host.Outcome State Fault Refusal := .next (lineStep true s)

/-- FALL: the line goes low (44 R202). -/
def execFall (s : State) : Host.Outcome State Fault Refusal := .next (lineStep false s)

end Sys2Proof.Machine
end

