-- ==== Sys2Proof/Machine/Frames.lean ====
section
/-! DEFINITION. The frame rows FRAME_A and FRAME_B (30 R90): the engine takes a whole frame of the row's length. -/

namespace Sys2Proof.Machine

/-- FRAME_A: a 16-byte frame is taken (30 R90, 40 R122, R124, R125). -/
def execFrameA (p0 p1 p2 p3 p4 p5 p6 p7 p8 p9 k0 k1 t0 t1 t2 : Byte) (s : State) :
    Host.Outcome State Fault Refusal :=
  .next (wholeFrame .d16
    [Config.startMarker, p0, p1, p2, p3, p4, p5, p6, p7, p8, p9, k0, k1, t0, t1, t2] s)

/-- FRAME_B: a 14-byte frame is taken (30 R90, 40 R122, R124, R125). -/
def execFrameB (p0 p1 p2 p3 p4 p5 p6 p7 p8 p9 k0 k1 t0 : Byte) (s : State) :
    Host.Outcome State Fault Refusal :=
  .next (wholeFrame .d14
    [Config.startMarker, p0, p1, p2, p3, p4, p5, p6, p7, p8, p9, k0, k1, t0] s)

end Sys2Proof.Machine
end

