-- ==== Sys2Proof/Machine/HostOps.lean ====
section
/-! DEFINITION. The host commands (spec/43_host_ops.md, 44 R200, R201), and what the host does that is no row of the
opcode table: register reads and reset. -/

namespace Sys2Proof.Machine

/-- READTAG (43 R180, R187). -/
def execReadtag (s : State) : Host.Outcome State Fault Refusal := .next (postRequest .readtag s)

/-- CLRBUF (43 R184, R187). -/
def execClrbuf (s : State) : Host.Outcome State Fault Refusal := .next (postRequest .clrbuf s)

/-- GETTAG (43 R186): the value returned is an output. -/
def execGettag (s : State) : Host.Outcome State Fault Refusal := .next (emit (.gotTag s.tag) s)

/-- INSTALL (44 R200). -/
def execInstall (s : State) : Host.Outcome State Fault Refusal :=
  .next (if s.linePresent = true ∧ s.monEn = false then
    { s with monEn := true, lineQ := s.line, evq := [], pstate := .idle } else s)

/-- UNINSTALL (44 R201). -/
def execUninstall (s : State) : Host.Outcome State Fault Refusal :=
  .next { s with monEn := false, evq := [] }

/-- The configuration write (43 R189): selector 0 DATASIZE, 1 CKEN, 2 TFRAME; every other selector or value is
ignored. -/
def writeCfg (sel val : Nat) (s : State) : State :=
  match sel with
  | 0 => if val = 14 then { s with datasize := .d14 }
         else if val = 16 then { s with datasize := .d16 } else s
  | 1 => if val = 0 then { s with cken := false }
         else if val = 1 then { s with cken := true } else s
  | 2 => if 0 < val then { s with tframe := val } else s
  | _ => s

/-- CFGWR (43 R189): only while no operation is in flight. -/
def execCfgwr (sel val : Nat) (s : State) : Host.Outcome State Fault Refusal :=
  .next (if s.fstate = .idle then writeCfg sel val s else s)

/-- CMD = 0: no command (43 R188). -/
def execCmdNone (s : State) : Host.Outcome State Fault Refusal := .next s

/-- CMD = 7: reserved, ignored (43 R188, 30 R96). -/
def execCmdReserved (s : State) : Host.Outcome State Fault Refusal := .next s

/-- A read of a host-visible register returns its value and changes nothing (43 R190). -/
def hostRead (r : CReg) (s : State) : State := emit (.regRead r (readReg r s)) s

/-- Reset (70 R260, R262): the launch state of the arguments. The wire's level and whether there is a wire are not the
block's; the schedule and the output log are the model's own. -/
def hostReset (a : Config.LaunchArgs) (s : State) : State :=
  { State.launch a with
    line := s.line, linePresent := s.linePresent, trace := s.trace, outs := s.outs }

end Sys2Proof.Machine
end

