-- ==== Sys2Proof/Machine/Dispatch.lean ====
section
/-! DEFINITION. One arm per row of spec/opcode_table.json. -/

namespace Sys2Proof.Machine

def exec (i : Instr) (s : State) : Host.Outcome State Fault Refusal :=
  match i with
  | .frameA p0 p1 p2 p3 p4 p5 p6 p7 p8 p9 k0 k1 t0 t1 t2 => Sys2Proof.Machine.execFrameA p0 p1 p2 p3 p4 p5 p6 p7 p8 p9 k0 k1 t0 t1 t2 s
  | .frameB p0 p1 p2 p3 p4 p5 p6 p7 p8 p9 k0 k1 t0 => Sys2Proof.Machine.execFrameB p0 p1 p2 p3 p4 p5 p6 p7 p8 p9 k0 k1 t0 s
  | .stx => Sys2Proof.Machine.execStx s
  | .hex0 => Sys2Proof.Machine.execHex0 s
  | .hex1 => Sys2Proof.Machine.execHex1 s
  | .hex2 => Sys2Proof.Machine.execHex2 s
  | .hex3 => Sys2Proof.Machine.execHex3 s
  | .hex4 => Sys2Proof.Machine.execHex4 s
  | .hex5 => Sys2Proof.Machine.execHex5 s
  | .hex6 => Sys2Proof.Machine.execHex6 s
  | .hex7 => Sys2Proof.Machine.execHex7 s
  | .hex8 => Sys2Proof.Machine.execHex8 s
  | .hex9 => Sys2Proof.Machine.execHex9 s
  | .hexUpA => Sys2Proof.Machine.execHexUpA s
  | .hexUpB => Sys2Proof.Machine.execHexUpB s
  | .hexUpC => Sys2Proof.Machine.execHexUpC s
  | .hexUpD => Sys2Proof.Machine.execHexUpD s
  | .hexUpE => Sys2Proof.Machine.execHexUpE s
  | .hexUpF => Sys2Proof.Machine.execHexUpF s
  | .hexLowA => Sys2Proof.Machine.execHexLowA s
  | .hexLowB => Sys2Proof.Machine.execHexLowB s
  | .hexLowC => Sys2Proof.Machine.execHexLowC s
  | .hexLowD => Sys2Proof.Machine.execHexLowD s
  | .hexLowE => Sys2Proof.Machine.execHexLowE s
  | .hexLowF => Sys2Proof.Machine.execHexLowF s
  | .nonhex b => Sys2Proof.Machine.execNonhex b s
  | .any b => Sys2Proof.Machine.execAny b s
  | .readtag => Sys2Proof.Machine.execReadtag s
  | .clrbuf => Sys2Proof.Machine.execClrbuf s
  | .gettag => Sys2Proof.Machine.execGettag s
  | .install => Sys2Proof.Machine.execInstall s
  | .uninstall => Sys2Proof.Machine.execUninstall s
  | .cfgwr sel val => Sys2Proof.Machine.execCfgwr sel val s
  | .cmdNone => Sys2Proof.Machine.execCmdNone s
  | .cmdReserved => Sys2Proof.Machine.execCmdReserved s
  | .rx b => Sys2Proof.Machine.execRx b s
  | .tmo0 => Sys2Proof.Machine.execTmo0 s
  | .sfault => Sys2Proof.Machine.execSfault s
  | .tmo => Sys2Proof.Machine.execTmo s
  | .rise => Sys2Proof.Machine.execRise s
  | .fall => Sys2Proof.Machine.execFall s
  | .grant prefer => Sys2Proof.Machine.execGrant prefer s
  | .start => Sys2Proof.Machine.execStart s
  | .data => Sys2Proof.Machine.execData s
  | .fault => Sys2Proof.Machine.execFault s

end Sys2Proof.Machine
end

