-- ==== Sys2Proof/Machine/Fetch.lean ====
section
/-! DEFINITION. How an item of the schedule becomes an operation: the passage of time and the overdue timer (40 R126 (b)),
the word that an item's signal presents, and what is left of the schedule (30 R98). -/

namespace Sys2Proof.Machine

/-- TMR advances with time while FSTATE = F_COLLECT (10 R44). -/
def elapse (d : Duration) (s : State) : State :=
  if s.fstate = .collect then { s with tmr := s.tmr + d } else s

/-- The frame time runs out before `d` more has passed, with the frame still short: the engine does not wait longer
(40 R126 (b)). At equality the order is open (60 R235) and the schedule decides (log 3). -/
abbrev TimerDue (s : State) (d : Duration) : Prop := TmoReady s ∧ s.tframe < s.tmr + d

/-- The moment the frame time runs out: TMR has reached CFG.TFRAME, and the item waits for the rest of its time. -/
def expire (it : Item) (rest : List Item) (s : State) : State :=
  { s with
    tmr := max s.tmr s.tframe
    trace := { it with after := it.after - (s.tframe - s.tmr) } :: rest }

/-- The word that a signal presents to the decoder; a byte row reads the front of RXQ, a frame row the front bytes of
RXQ. Register reads and reset are no operations of the table. -/
def fetchWord (sig : Signal) (s : State) : Option Word :=
  match sig with
  | .cmd code sel val => some (.cmd code sel val)
  | .readReg _ => none
  | .reset _ => none
  | .rx b => some (.byteStrobe b)
  | .tmo0 => some .tmo0Strobe
  | .sfault => some .sfaultStrobe
  | .tmo => some .tmoStrobe
  | .level l => some (.level l)
  | .engine p => some (.turn p)
  | .run p => some (.turn p)
  | .takeByte => s.rxq.head?.map .byte
  | .takeFrame => some (.frame (s.rxq.take (frameLen s.datasize)))

/-- The operation of a signal. -/
def fetchInstr (sig : Signal) (s : State) : Option Instr :=
  match fetchWord sig s with
  | some w => (decode s.ctx w).toOption
  | none => none

/-- What a signal that is no operation does: register reads (43 R190), reset (70 R262), and otherwise nothing (a byte
or a frame that is not there to be taken; log 9). -/
def nonInstr (sig : Signal) (s : State) : State :=
  match sig with
  | .readReg r => hostRead r s
  | .reset a => hostReset a s
  | _ => s

/-- The schedule after an item: `run` stays until no engine step is enabled (30 R98). -/
def remaining (it : Item) (rest : List Item) (s : State) : List Item :=
  match it.signal with
  | .run p => if EngineEnabled s then { after := 0, signal := .run p } :: rest else rest
  | _ => rest

/-- An item is taken up: its time passes and the schedule moves on. -/
def takeUp (it : Item) (rest : List Item) (s : State) : State :=
  { elapse it.after s with trace := remaining it rest (elapse it.after s) }

/-- A decode operation of the host waits at a frame position for a byte of its frame. -/
def awaitByte (f : FState) (pos : Nat) (s : State) : State :=
  { s with
    fstate := f, owner := .host, hreq := .readtag, chFault := false, cnt := pos
    fb := if pos = 0 then s.fb else s.fb.set 0 Config.startMarker }

/-- The state in which the next step fetches a table word (log 11): a command stands on the command port; a byte is the
front of RXQ with an operation in flight at the byte's position; a frame is the front of RXQ with an operation in flight
at position 0 and CFG.DATASIZE the frame's length. -/
def placeWord (nbits w : Nat) (s : State) : State :=
  match tableWord nbits w with
  | some (.cmd code sel val) =>
    { s with tmr := min s.tmr s.tframe, trace := { after := 0, signal := .cmd code sel val } :: s.trace }
  | some (.byte b) =>
    { awaitByte (tableCtx nbits w).fstate (tableCtx nbits w).pos s with
      rxq := b :: s.rxq, trace := { after := 0, signal := .takeByte } :: s.trace }
  | some (.frame bytes) =>
    { awaitByte .start 0 s with
      datasize := (tableCtx nbits w).datasize
      rxq := bytes ++ s.rxq, trace := { after := 0, signal := .takeFrame } :: s.trace }
  | _ => s

end Sys2Proof.Machine
end

