-- ==== Sys2Proof/Machine/Step.lean ====
section
/-! DEFINITION. One step of the machine: the first item of the schedule, or the timer when it is overdue. With nothing
scheduled nothing happens (70 R261). -/

namespace Sys2Proof.Machine

/-- One step. -/
def step (s : State) : Host.Outcome State Fault Refusal :=
  match s.trace with
  | [] => .next s
  | it :: rest =>
    if TimerDue s it.after then exec .tmo (expire it rest s)
    else
      match fetchInstr it.signal (takeUp it rest s) with
      | some i => exec i (takeUp it rest s)
      | none => .next (nonInstr it.signal (takeUp it rest s))

/-- A word of spec/opcode_table.json placed where the next step fetches (log 11). -/
def State.withFetchWord (s : State) (nbits w : Nat) : State := placeWord nbits w s

end Sys2Proof.Machine
end

