-- ==== Sys2Proof/Safety.lean ====
section
/-! DEFINITION. The terms in which claims about the block are stated: its invariant, the reference decode function,
blocking, quiescence and the end of a trace. -/

namespace Sys2Proof.Safety

open Sys2Proof.Machine

/-- Quiescent: no engine step is enabled (00 R15). -/
abbrev Quiescent (s : State) : Prop := ¬ EngineEnabled s

/-- Waiting for the environment: an operation in flight with no enabled engine step. This is "blocked" as 00 R15 and
70 R281 use the word; TMO and TMO0 are the environment's events, not engine steps. -/
abbrev Waiting (s : State) : Prop := s.fstate ≠ .idle ∧ Quiescent s

/-- Blocked, as the situations of 40 R129 give it: the operation waits and the frame time has not run out. The first
sentence of R129 leaves out the wait of a non-blocking channel, where TMO0 is enabled; its second sentence counts that
wait in, as long as the channel has not reported. The model follows the second (DESIGN CHOICE of reading, log 18,
safe). -/
abbrev Blocked (s : State) : Prop := Waiting s ∧ ¬ (TmoReady s ∧ s.tframe ≤ s.tmr)

/-- A trace has ended: all its lines have been applied and no engine step is enabled (70 R281). -/
abbrev TraceEnded (s : State) : Prop := s.trace = [] ∧ Quiescent s

/-- A trace ends blocked: it has ended with an operation in flight (70 R281). -/
abbrev EndsBlocked (s : State) : Prop := TraceEnded s ∧ s.fstate ≠ .idle

/-- What is read off the end state of a trace, with its output events in order, and whether it ended blocked
(70 R281). -/
structure EndReport where
  tag : TagValue
  resValid : Bool
  resKind : ResultKind
  resValue : TagValue
  rxq : List Byte
  pstate : PState
  fstate : FState
  outs : List Output
  blocked : Bool
  deriving DecidableEq, Repr

/-- The report of a trace that has ended; none while it has not (70 R281). -/
def endReport (s : State) : Option EndReport :=
  if TraceEnded s then
    some { tag := s.tag, resValid := s.resValid, resKind := s.resKind, resValue := s.resValue, rxq := s.rxq
           pstate := s.pstate, fstate := s.fstate, outs := s.outs, blocked := decide (EndsBlocked s) }
  else none

/-- The edges alternate, and the last of them leaves the line at level `l` (44 R202 (e)). -/
def edgesEndAt : List Edge → Bool → Prop
  | [], _ => True
  | [e], l => l = (match e with | .rise => true | .fall => false)
  | e :: e' :: r, l => e ≠ e' ∧ edgesEndAt (e' :: r) l

/-- The invariant of the block, from the rules named at each part. -/
structure BlockInv (s : State) : Prop where
  /-- CFG.TFRAME is a positive duration (00 R7, 10 R30). -/
  positive : 0 < s.tframe
  /-- FSTATE = F_IDLE if and only if OWNER = NONE (10 R26). -/
  gate : s.fstate = .idle ↔ s.owner = .none
  /-- An operation of the host holds the request slot (10 R40). -/
  slot : s.owner = .host → s.hreq = .readtag
  /-- CNT is 0 in F_START (10 R22). -/
  atStart : s.fstate = .start → s.cnt = 0
  /-- CNT is at least 1 and below CFG.DATASIZE between steps in F_COLLECT (40 R124 (d)). -/
  inFrame : s.fstate = .collect → 1 ≤ s.cnt ∧ s.cnt < frameLen s.datasize
  /-- CNT never exceeds 16 (10 R27). -/
  count : s.cnt ≤ 16
  /-- FB[0] holds the start marker in F_COLLECT (10 R21). -/
  marker : s.fstate = .collect → s.fb[0] = Config.startMarker
  /-- While the monitor is installed LINE_Q is LINE (10 R42). -/
  detector : s.monEn = true → s.lineQ = s.line
  /-- EVQ is empty while the monitor is not installed (44 R205). -/
  detached : s.monEn = false → s.evq = []
  /-- The elements of EVQ alternate and the last one left the line at its present level (44 R202 (e)). -/
  edges : edgesEndAt s.evq s.line
  /-- Without a line the monitor is never installed, never runs, and TAG stays 0 (44 R203). -/
  noLine : s.linePresent = false → s.monEn = false ∧ s.owner ≠ .mon ∧ s.tag = 0
  /-- RESULT.VALUE is 0 for every error (10 R34). -/
  errorValue : s.resKind ≠ .ok → s.resValue = 0
  /-- RESULT is all 0 until VALID is set (10 R34, 70 R260). -/
  unset : s.resValid = false → s.resKind = .ok ∧ s.resValue = 0

/-- The reference function Decode(s, n, k) of 40 R132 on the bytes available to an operation; none when there is no
byte. -/
def decodeRef (bytes : List Byte) (d : DataSize) (cken : Bool) : Option DecRes :=
  match bytes with
  | [] => none
  | b :: _ =>
    if b ≠ Config.startMarker then some (.err .badStartMarker)
    else if bytes.length < frameLen d then some (.err .incompleteFrame)
    else
      let f := bytes.take (frameLen d)
      if payloadOk f = false then some (.err .malformedPayload)
      else if cken = true ∧ ckFieldOk f = false then some (.err .checksumMismatch)
      else if cken = true ∧ ckCalc f ≠ ckRx f then some (.err .checksumMismatch)
      else (payload f).map .ok

/-- The state after an operation in flight for `o` has ended with `res`: complete(res) and MonComplete(res) written out
(40 R130, 44 R207). -/
def delivered (o : Owner) (res : DecRes) (s : State) : State :=
  match o with
  | .host =>
    { s with
      resValid := true, resKind := resultKind res, resValue := resultValue res, hreq := .none
      outs := s.outs ++ [.done res], owner := .none, fstate := .idle }
  | .mon =>
    { s with
      tag := resultValue res, pstate := .present
      outs := s.outs ++ [.tagUpd (resultValue res)], owner := .none, fstate := .idle }
  | .none => { s with owner := .none, fstate := .idle }

/-- What a row of spec/opcode_table.json describes: the "kind" column, with the byte rows as one kind and the three
kinds of environment events as one. -/
inductive RowKind where
  | frame
  | byte
  | command
  | event
  | engine
  deriving DecidableEq, Repr

/-- The kind of an instruction's row. -/
def rowKind : Instr → RowKind
  | .frameA _ _ _ _ _ _ _ _ _ _ _ _ _ _ _ => .frame
  | .frameB _ _ _ _ _ _ _ _ _ _ _ _ _ => .frame
  | .stx => .byte
  | .hex0 => .byte | .hex1 => .byte | .hex2 => .byte | .hex3 => .byte | .hex4 => .byte
  | .hex5 => .byte | .hex6 => .byte | .hex7 => .byte | .hex8 => .byte | .hex9 => .byte
  | .hexUpA => .byte | .hexUpB => .byte | .hexUpC => .byte
  | .hexUpD => .byte | .hexUpE => .byte | .hexUpF => .byte
  | .hexLowA => .byte | .hexLowB => .byte | .hexLowC => .byte
  | .hexLowD => .byte | .hexLowE => .byte | .hexLowF => .byte
  | .nonhex _ => .byte | .any _ => .byte
  | .readtag => .command | .clrbuf => .command | .gettag => .command
  | .install => .command | .uninstall => .command | .cfgwr _ _ => .command
  | .cmdNone => .command | .cmdReserved => .command
  | .rx _ => .event | .tmo0 => .event | .sfault => .event | .tmo => .event | .rise => .event | .fall => .event
  | .grant _ => .engine | .start => .engine | .data => .engine | .fault => .engine

/-- The steps that take bytes of a frame into FB: START and DATA, and the byte and frame rows, which are those steps
named by their bytes (log 7, log 8). -/
abbrev TakesBytes (i : Instr) : Prop := i = .start ∨ i = .data ∨ rowKind i = .byte ∨ rowKind i = .frame

/-- A step from `s` to `t` raised an error of a framing kind, and so flushed: the operation in flight ended, RXQ is
empty, and its owner got the error, RESULT and DONE for the host, TAG = 0 for the monitor (20 R82 (b), 60 R236). -/
def FramingFlush (s t : State) : Prop :=
  s.fstate ≠ .idle ∧ t.fstate = .idle ∧ t.rxq = [] ∧
  ∃ k, k ≠ .streamFault ∧
    (s.owner = .host → t.resKind = .err k ∧ t.outs = s.outs ++ [.done (.err k)]) ∧
    (s.owner = .mon → t.tag = 0 ∧ t.outs = s.outs ++ [.tagUpd 0])

/-- The HEX_ rows of spec/opcode_table.json with their bytes. -/
def hexRows : List (Instr × Byte) :=
  [(.hex0, 0x30), (.hex1, 0x31), (.hex2, 0x32), (.hex3, 0x33), (.hex4, 0x34), (.hex5, 0x35), (.hex6, 0x36),
   (.hex7, 0x37), (.hex8, 0x38), (.hex9, 0x39)] ++
  [(.hexUpA, 0x41), (.hexUpB, 0x42), (.hexUpC, 0x43), (.hexUpD, 0x44), (.hexUpE, 0x45), (.hexUpF, 0x46)] ++
  [(.hexLowA, 0x61), (.hexLowB, 0x62), (.hexLowC, 0x63), (.hexLowD, 0x64), (.hexLowE, 0x65), (.hexLowF, 0x66)]

/-- The ASCII character of a hexadecimal digit, in upper or lower case (30 R92). -/
def hexChar (upper : Bool) (d : BitVec 4) : Byte :=
  if d < 10#4 then 0x30#8 + d.setWidth 8
  else (if upper then 0x41#8 else 0x61#8) + (d - 10#4).setWidth 8

/-- The hexadecimal digit of a tag value at payload character `i`, most significant first (20 R61). -/
def nibble (v : TagValue) (i : Nat) : BitVec 4 := v.extractLsb' (36 - 4 * i) 4

/-- The XOR of the five bytes of a tag value (42 R166). -/
def xorBytes (v : TagValue) : Byte :=
  v.extractLsb' 32 8 ^^^ v.extractLsb' 24 8 ^^^ v.extractLsb' 16 8 ^^^ v.extractLsb' 8 8 ^^^ v.extractLsb' 0 8

/-- The terminator of a frame as its reader sends it (42 R171, 30 R90). -/
def terminator : DataSize → List Byte
  | .d16 => [0x0D#8, 0x0A#8, 0x03#8]
  | .d14 => [0x03#8]

/-- The frame of a tag value (42 R171). -/
def frameOf (d : DataSize) (upper : Bool) (v : TagValue) : List Byte :=
  [Config.startMarker] ++ (List.range 10).map (fun i => hexChar upper (nibble v i)) ++
    [hexChar upper ((xorBytes v).extractLsb' 4 4), hexChar upper ((xorBytes v).extractLsb' 0 4)] ++ terminator d

end Sys2Proof.Safety
end

