-- ==== Sys2Proof/Certificates/Slice0/Obligations.lean ====
section
/-! DEFINITION. The statements about the block, one def per obligation. Each docstring cites the rule it formalises. -/

open Sys2Proof Sys2Proof.Machine Sys2Proof.Safety

/-! ### Reset, the schedule and the decoder -/

/-- R260: every field of the launch state, whatever the launch arguments. The zeros of LINE_Q, CNT, FB and TMR are the
model's choice (log 5), so this is derived. -/
def Obligations.LaunchValues : Prop :=
  ∀ a : Config.LaunchArgs,
    let s := State.launch a
    (s.tag = 0 ∧ s.pstate = .idle ∧ s.cken = true) ∧
    (s.fstate = .idle ∧ s.owner = .none ∧ s.hreq = .none ∧ s.evq = [] ∧ s.monEn = false ∧ s.chFault = false) ∧
    (s.resValid = false ∧ s.resKind = .ok ∧ s.resValue = 0 ∧ s.tframe = a.tFrame.val ∧ 0 < s.tframe) ∧
    (s.datasize = a.datasize0 ∧ s.rxq = a.rxq0 ∧ s.line = a.line0)

/-- R261: in the launch state no engine step is enabled and a turn of the engine changes nothing; a byte that arrives
is queued; a level change is ignored but for the level itself; the line's interrupt is disabled. That a step with an
empty schedule and a turn with no enabled step change nothing are the model's readings (log 1, log 9). -/
def Obligations.NothingHappensAfterReset : Prop :=
  ∀ a : Config.LaunchArgs,
    Quiescent (State.launch a) ∧ (State.launch a).monEn = false ∧
    step (State.launch a) = .next (State.launch a) ∧
    (∀ p, exec (.grant p) (State.launch a) = .next (State.launch a)) ∧
    (∀ b, exec (.rx b) (State.launch a) =
      .next { State.launch a with rxq := a.rxq0 ++ [b] }) ∧
    exec .rise (State.launch a) = .next { State.launch a with line := true } ∧
    exec .fall (State.launch a) = .next { State.launch a with line := false }

/-- The per-instruction statements reach a run through this one: when an item is taken up (the frame time has not run
out before it, log 3) and its word decodes to `i`, the step is exec of `i`, in the state in which the item's time has
passed (TMR advances in F_COLLECT, 10 R44) and the schedule has moved on (`run` stays while an engine step is enabled,
30 R98). An item whose byte is not there, or whose frame is not one, is used up and does nothing more (log 9). Then the
word of each signal: the command port, the strobes, the line's level, the engine's turn, the front byte of RXQ, the
front CFG.DATASIZE bytes of RXQ (30 R90, R93, R95); register reads and reset have none. -/
def Obligations.StepRunsDecodedInstruction : Prop :=
  (∀ (s : State) (it : Item) (rest : List Item), s.trace = it :: rest → ¬ TimerDue s it.after →
    (∀ w i, fetchWord it.signal (takeUp it rest s) = some w → decode (takeUp it rest s).ctx w = .ok i →
      step s = exec i (takeUp it rest s)) ∧
    (∀ w e, fetchWord it.signal (takeUp it rest s) = some w → decode (takeUp it rest s).ctx w = .error e →
      step s = .next (takeUp it rest s)) ∧
    (it.signal = .takeByte → s.rxq = [] → step s = .next (takeUp it rest s)) ∧
    takeUp it rest s =
      { s with
        tmr := if s.fstate = .collect then s.tmr + it.after else s.tmr
        trace := match it.signal with
          | .run p => if EngineEnabled s then { after := 0, signal := .run p } :: rest else rest
          | _ => rest }) ∧
  (∀ s : State,
    (∀ code sel val, fetchWord (.cmd code sel val) s = some (.cmd code sel val)) ∧
    (∀ b, fetchWord (.rx b) s = some (.byteStrobe b)) ∧
    fetchWord .tmo0 s = some .tmo0Strobe ∧ fetchWord .sfault s = some .sfaultStrobe ∧
    fetchWord .tmo s = some .tmoStrobe ∧
    (∀ l, fetchWord (.level l) s = some (.level l)) ∧
    (∀ p, fetchWord (.engine p) s = some (.turn p) ∧ fetchWord (.run p) s = some (.turn p)) ∧
    (∀ b r, s.rxq = b :: r → fetchWord .takeByte s = some (.byte b)) ∧
    (s.rxq = [] → fetchWord .takeByte s = none) ∧
    (s.datasize = .d16 → fetchWord .takeFrame s = some (.frame (s.rxq.take 16))) ∧
    (s.datasize = .d14 → fetchWord .takeFrame s = some (.frame (s.rxq.take 14))) ∧
    (∀ r, fetchWord (.readReg r) s = none) ∧ (∀ a, fetchWord (.reset a) s = none))

/-- R126 (b), as the model's schedule carries it (log 3): when more time would pass than the frame time leaves and the
frame is short, the step is the TMO event, which ends the operation with IncompleteFrame; the item waits for the rest
of its time. -/
def Obligations.OverdueTimerGoesFirst : Prop :=
  ∀ (s : State) (it : Item) (rest : List Item),
    s.trace = it :: rest → TimerDue s it.after →
    step s = .next (delivered s.owner (.err .incompleteFrame)
      { s with
        rxq := []
        tmr := max s.tmr s.tframe
        trace := { it with after := it.after - (s.tframe - s.tmr) } :: rest })

/-- R98: the item `run` takes the engine's enabled step and stays; when no step is enabled it is dropped and nothing
else changes but the time that passed before it. -/
def Obligations.RunTakesEnabledSteps : Prop :=
  ∀ (s : State) (d : Duration) (p : Requester) (rest : List Item),
    s.trace = { after := d, signal := .run p } :: rest → ¬ TimerDue s d →
    (EngineEnabled s →
      step s = exec (engineRow s.ctx p) { elapse d s with trace := { after := 0, signal := .run p } :: rest }) ∧
    (¬ EngineEnabled s → step s = .next { elapse d s with trace := rest })

/-- R190, R262, R283: a register read returns the current value and changes nothing; reset gives the launch state of
its arguments, but for the wire and the model's own schedule and output log. -/
def Obligations.RegisterReadsAndReset : Prop :=
  ∀ (s : State) (d : Duration) (rest : List Item), ¬ TimerDue s d →
    (∀ r, s.trace = { after := d, signal := .readReg r } :: rest →
      step s = .next { elapse d s with trace := rest, outs := s.outs ++ [.regRead r (readReg r s)] }) ∧
    (∀ a, s.trace = { after := d, signal := .reset a } :: rest →
      step s = .next { State.launch a with
        line := s.line, linePresent := s.linePresent, trace := rest, outs := s.outs })

/-- Words written out from the encodings of R93, R95 and the byte codes of R150. -/
def Obligations.SampleWordsDecode : Prop :=
  let at1 : Ctx := ⟨.collect, false, 1, true, .d16⟩
  let at0 : Ctx := ⟨.start, false, 0, true, .d16⟩
  decode at0 (.byte 0x02#8) = .ok .stx ∧ decode at1 (.byte 0x39#8) = .ok .hex9 ∧
  decode at1 (.byte 0x46#8) = .ok .hexUpF ∧ decode at1 (.byte 0x61#8) = .ok .hexLowA ∧
  decode at1 (.byte 0x47#8) = .ok (.nonhex 0x47#8) ∧
  decode ⟨.collect, false, 11, false, .d16⟩ (.byte 0x39#8) = .ok (.any 0x39#8) ∧
  decode at0 (.cmd 0b001#3 0 0) = .ok .readtag ∧ decode at0 (.cmd 0b110#3 0 14) = .ok (.cfgwr 0 14) ∧
  decode at0 (.level true) = .ok .rise ∧ decode at0 (.turn .host) = .ok .start

/-- R90, R93, R95: decoding the word of a well-formed instruction gives the instruction, in every context that its row
of the table names. -/
def Obligations.DecodeEncodeAgree : Prop :=
  ∀ (i : Instr) (c : Ctx), wellFormed i = true → c.selects i → decode c (encode i) = .ok i

/-- R93: at every frame position a byte has exactly one row. Position 0: 0x02 is STX and every other byte is left to
the START step. Where a digit is wanted: the 22 HEX_ rows, and NONHEX for the other 234. Elsewhere ANY. -/
def Obligations.ByteClassesByPosition : Prop :=
  ∀ (c : Ctx) (b : Byte),
    (c.fstate = .start →
      decode c (.byte b) = .ok (if b = 0x02#8 then .stx else .start)) ∧
    (c.fstate = .collect → c.wantsDigit → isHex b = true →
      ∃ i, (i, b) ∈ hexRows ∧ decode c (.byte b) = .ok i) ∧
    (c.fstate = .collect → c.wantsDigit → isHex b = false → decode c (.byte b) = .ok (.nonhex b)) ∧
    (c.fstate = .collect → 1 ≤ c.pos → ¬ c.wantsDigit → decode c (.byte b) = .ok (.any b))

/-! ### The converter and the validator -/

/-- R150, R151: the 22 digits and their values; every other byte is invalid. -/
def Obligations.HexDigitValues : Prop :=
  (∀ c : Byte,
    (0x30 ≤ c.toNat ∧ c.toNat ≤ 0x39 → (hexval c).map BitVec.toNat = some (c.toNat - 0x30)) ∧
    (0x41 ≤ c.toNat ∧ c.toNat ≤ 0x46 → (hexval c).map BitVec.toNat = some (c.toNat - 0x41 + 10)) ∧
    (0x61 ≤ c.toNat ∧ c.toNat ≤ 0x66 → (hexval c).map BitVec.toNat = some (c.toNat - 0x61 + 10)) ∧
    (c.toNat < 0x30 ∨ (0x39 < c.toNat ∧ c.toNat < 0x41) ∨ (0x46 < c.toNat ∧ c.toNat < 0x61) ∨ 0x66 < c.toNat →
      hexval c = none)) ∧
  (∀ c : Byte, isHex c = (hexval c).isSome) ∧
  ((List.range 256).filter (fun n => isHex (BitVec.ofNat 8 n))).length = 22

/-- R152, R153: the payload converts exactly when its ten characters are digits, and the value is the sum of the
digits times powers of 16, the first most significant. -/
def Obligations.PayloadIsBase16 : Prop :=
  ∀ f : List Byte,
    ((payload f).isSome = payloadOk f) ∧
    (payloadOk f = true ↔ ∀ c ∈ (f.drop 1).take 10, isHex c = true) ∧
    (∀ g : Fin 10 → BitVec 4, (∀ i : Fin 10, ∃ c, f[1 + i.val]? = some c ∧ hexval c = some (g i)) →
      ∃ v, payload f = some v ∧ v.toNat = ∑ i : Fin 10, (g i).toNat * 16 ^ (9 - i.val))

/-- R154, R155: the checksum field converts exactly when its two characters are digits, high digit first. -/
def Obligations.ChecksumFieldIsBase16 : Prop :=
  ∀ f : List Byte,
    ((ckRx f).isSome = ckFieldOk f) ∧
    (ckFieldOk f = true ↔ ∀ c ∈ (f.drop 11).take 2, isHex c = true) ∧
    (∀ (c d : Byte) (x y : BitVec 4), f[11]? = some c → f[12]? = some d → hexval c = some x → hexval d = some y →
      ∃ v, ckRx f = some v ∧ v.toNat = x.toNat * 16 + y.toNat)

/-- R156, R166: chunk j is the base-16 value of its two characters and byte 4 - j of the payload value, and CkCalc is
the XOR of the five, that is of the value's five bytes. -/
def Obligations.ChunksAreValueBytes : Prop :=
  ∀ (f : List Byte) (v : TagValue), 11 ≤ f.length → payload f = some v →
    (∀ j, j < 5 → chunk f j = some (v.extractLsb' (32 - 8 * j) 8)) ∧
    (∀ (j : Nat) (c d : Byte) (x y : BitVec 4), j < 5 → f[1 + 2 * j]? = some c → f[2 + 2 * j]? = some d →
      hexval c = some x → hexval d = some y →
      (v.extractLsb' (32 - 8 * j) 8).toNat = x.toNat * 16 + y.toNat) ∧
    ckCalc f = some (v.extractLsb' 32 8 ^^^ v.extractLsb' 24 8 ^^^ v.extractLsb' 16 8 ^^^
      v.extractLsb' 8 8 ^^^ v.extractLsb' 0 8)

/-- R167 (d): changing exactly one chunk of a payload changes the checksum. -/
def Obligations.OneChunkErrorIsDetected : Prop :=
  ∀ (f g : List Byte) (j : Nat), j < 5 → 11 ≤ f.length → 11 ≤ g.length →
    payloadOk f = true → payloadOk g = true →
    chunk f j ≠ chunk g j → (∀ k, k < 5 → k ≠ j → chunk f k = chunk g k) →
    ckCalc f ≠ ckCalc g

/-- R158: a letter's case does not matter: two frames whose characters have equal digit values give the same results. -/
def Obligations.LetterCaseDoesNotMatter : Prop :=
  ∀ (f g : List Byte) (cken : Bool), f.map hexval = g.map hexval → checkFrame f cken = checkFrame g cken

/-! ### Host commands -/

/-- R180, R184, R187: READTAG and CLRBUF post their request when none is outstanding, and are refused otherwise. -/
def Obligations.RequestsArePostedOrRefused : Prop :=
  ∀ s : State,
    (s.hreq = .none → exec .readtag s = .next { s with hreq := .readtag } ∧
      exec .clrbuf s = .next { s with hreq := .clrbuf }) ∧
    (s.hreq ≠ .none → exec .readtag s = .next s ∧ exec .clrbuf s = .next s)

/-- R186: GETTAG returns TAG in every state and changes nothing; the value is an output of the model's log (log 6). -/
def Obligations.GettagReturnsTag : Prop :=
  ∀ s : State, exec .gettag s = .next { s with outs := s.outs ++ [.gotTag s.tag] }

/-- R200: INSTALL takes effect exactly when there is a line and the monitor is not installed; TAG is not written. -/
def Obligations.InstallLoadsDetector : Prop :=
  ∀ s : State,
    (s.linePresent = true → s.monEn = false →
      exec .install s = .next { s with monEn := true, lineQ := s.line, evq := [], pstate := .idle }) ∧
    (s.linePresent = false ∨ s.monEn = true → exec .install s = .next s)

/-- R201: UNINSTALL clears MON_EN and drops the waiting edges, whatever the state, and is idempotent; TAG, PSTATE and
LINE_Q are not written and a decode in flight is not stopped. -/
def Obligations.UninstallDetaches : Prop :=
  ∀ s : State,
    exec .uninstall s = .next { s with monEn := false, evq := [] } ∧
    exec .uninstall { s with monEn := false, evq := [] } = .next { s with monEn := false, evq := [] }

/-- R189: CFGWR writes a legal value of a field while the engine is idle, and changes nothing in every other case. -/
def Obligations.CfgwrWritesLegalFields : Prop :=
  ∀ (s : State) (sel val : Nat),
    (s.fstate = .idle →
      (sel = 0 → val = 14 → exec (.cfgwr sel val) s = .next { s with datasize := .d14 }) ∧
      (sel = 0 → val = 16 → exec (.cfgwr sel val) s = .next { s with datasize := .d16 }) ∧
      (sel = 1 → val = 0 → exec (.cfgwr sel val) s = .next { s with cken := false }) ∧
      (sel = 1 → val = 1 → exec (.cfgwr sel val) s = .next { s with cken := true }) ∧
      (sel = 2 → 0 < val → exec (.cfgwr sel val) s = .next { s with tframe := val })) ∧
    (s.fstate ≠ .idle ∨ (sel = 0 ∧ val ≠ 14 ∧ val ≠ 16) ∨ (sel = 1 ∧ val ≠ 0 ∧ val ≠ 1) ∨ (sel = 2 ∧ val = 0) ∨
      3 ≤ sel → exec (.cfgwr sel val) s = .next s)

/-- R188: CMD = 0 is no command, CMD = 7 and selectors 3 and above are ignored. -/
def Obligations.ReservedCommandsDoNothing : Prop :=
  ∀ (s : State) (sel val : Nat),
    exec .cmdNone s = .next s ∧ exec .cmdReserved s = .next s ∧ (3 ≤ sel → exec (.cfgwr sel val) s = .next s)

/-! ### Environment events -/

/-- R120: a byte is appended at the end of RXQ in every state, and nothing else changes. -/
def Obligations.ByteArrivesAtTheEnd : Prop :=
  ∀ (s : State) (b : Byte), exec (.rx b) s = .next { s with rxq := s.rxq ++ [b] }

/-- R128: SFAULT sets the sticky flag and nothing else; a second one changes nothing. -/
def Obligations.ChannelFailureIsSticky : Prop :=
  ∀ s : State,
    exec .sfault s = .next { s with chFault := true } ∧
    (s.chFault = true → exec .sfault s = .next s)

/-- R123: the zero-byte timeout completes the operation with Ok(0), without a flush, exactly when the channel is
non-blocking, the engine waits in F_START, the channel has not failed and RXQ is empty. That a TMO0 that is not enabled
changes nothing is the model's reading (log 9). -/
def Obligations.ZeroByteTimeoutGivesZero : Prop :=
  ∀ s : State,
    (s.chNonblock = true → s.fstate = .start → s.chFault = false → s.rxq = [] →
      exec .tmo0 s = .next (delivered s.owner (.ok 0) s)) ∧
    (s.chNonblock = false ∨ s.fstate ≠ .start ∨ s.chFault = true ∨ s.rxq ≠ [] → exec .tmo0 s = .next s)

/-- R126: the frame time runs out: IncompleteFrame, under exactly the rule's conditions; a buffered byte wins over the
timer whatever TMR reads. That a TMO that is not enabled changes nothing is the model's reading (log 9). -/
def Obligations.FrameTimeoutGivesIncompleteFrame : Prop :=
  ∀ s : State,
    (s.fstate = .collect → s.chFault = false → s.cnt < frameLen s.datasize → s.rxq = [] → s.tframe ≤ s.tmr →
      exec .tmo s = .next (delivered s.owner (.err .incompleteFrame) s)) ∧
    (s.fstate ≠ .collect ∨ s.chFault = true ∨ frameLen s.datasize ≤ s.cnt ∨ s.rxq ≠ [] ∨ s.tmr < s.tframe →
      exec .tmo s = .next s)

/-- R202: a level change sets LINE; while the monitor is installed it also queues the edge found against LINE_Q and
loads LINE_Q; otherwise it changes LINE only. -/
def Obligations.LevelChangesQueueEdges : Prop :=
  ∀ s : State,
    (s.line = false → s.monEn = false → exec .rise s = .next { s with line := true }) ∧
    (s.line = false → s.monEn = true → s.lineQ = false →
      exec .rise s = .next { s with line := true, lineQ := true, evq := s.evq ++ [.rise] }) ∧
    (s.line = false → s.monEn = true → s.lineQ = true → exec .rise s = .next { s with line := true }) ∧
    (s.line = true → s.monEn = false → exec .fall s = .next { s with line := false }) ∧
    (s.line = true → s.monEn = true → s.lineQ = true →
      exec .fall s = .next { s with line := false, lineQ := false, evq := s.evq ++ [.fall] }) ∧
    (s.line = true → s.monEn = true → s.lineQ = false → exec .fall s = .next { s with line := false })

/-! ### Engine steps -/

/-- R181: no grant while an operation is in flight; with nothing waiting nothing happens; with both requesters waiting
either may be granted, by the schedule's choice (log 10); with one waiting the choice does not matter. That a GRANT that
is not enabled changes nothing is the model's reading (log 9). -/
def Obligations.GateGrantsOneRequest : Prop :=
  ∀ (s : State) (p q : Requester),
    (s.fstate ≠ .idle → exec (.grant p) s = .next s) ∧
    (s.hreq = .none → s.evq = [] → exec (.grant p) s = .next s) ∧
    (s.hreq = .none ∨ s.evq = [] → exec (.grant p) s = exec (.grant q) s) ∧
    (s.fstate = .idle → s.hreq ≠ .none → s.evq ≠ [] →
      (∃ t, exec (.grant .host) s = .next t ∧ t.evq = s.evq ∧ (t.owner = .host ∨ t.hreq = .none)) ∧
      (∃ t, exec (.grant .mon) s = .next t ∧ t.evq = s.evq.tail ∧ t.hreq = s.hreq))

/-- R182: the grant of a host READTAG starts the decode, or ends it at once with StreamFault on a failed channel,
without touching RXQ. -/
def Obligations.HostReadIsGranted : Prop :=
  ∀ (s : State) (p : Requester),
    s.fstate = .idle → s.hreq = .readtag → (s.evq = [] ∨ p = .host) →
    (s.chFault = false →
      exec (.grant p) s = .next { s with owner := .host, cnt := 0, fstate := .start }) ∧
    (s.chFault = true → exec (.grant p) s = .next (delivered .host (.err .streamFault) s))

/-- R185: the grant of a host CLRBUF empties RXQ, frees the slot and reports CLRDONE, also on a failed channel. -/
def Obligations.HostClearIsGranted : Prop :=
  ∀ (s : State) (p : Requester),
    s.fstate = .idle → s.hreq = .clrbuf → (s.evq = [] ∨ p = .host) →
    exec (.grant p) s = .next { s with rxq := [], hreq := .none, outs := s.outs ++ [.clrDone] }

/-- R205, R206, R208: the grant of the oldest edge: a rising edge starts the monitor's decode (or ends it with
StreamFault), a falling edge stores 0, discards the input and moves to Idle, all in one step. -/
def Obligations.MonitorEdgeIsGranted : Prop :=
  ∀ (s : State) (p : Requester) (e : Edge) (r : List Edge),
    s.fstate = .idle → s.evq = e :: r → (s.hreq = .none ∨ p = .mon) →
    (e = .rise → s.chFault = false →
      exec (.grant p) s = .next { s with evq := r, owner := .mon, cnt := 0, fstate := .start }) ∧
    (e = .rise → s.chFault = true →
      exec (.grant p) s = .next (delivered .mon (.err .streamFault) { s with evq := r })) ∧
    (e = .fall →
      exec (.grant p) s =
        .next { s with evq := r, tag := 0, rxq := [], pstate := .idle, outs := s.outs ++ [.tagUpd 0] })

/-- R122: START, and STX for the start marker: the marker opens the frame and starts the timer; any other byte
discards the whole queue and ends the operation with BadStartMarker. That the row STX is this step is the model's reading
of the table (log 7), so this is derived. -/
def Obligations.StartTakesFirstByte : Prop :=
  ∀ (s : State) (b : Byte) (r : List Byte),
    s.fstate = .start → s.chFault = false → s.rxq = b :: r →
    (b = 0x02#8 → ∀ i, i = .start ∨ i = .stx →
      exec i s = .next { s with rxq := r, fb := s.fb.set 0 0x02#8, cnt := 1, tmr := 0, fstate := .collect }) ∧
    (b ≠ 0x02#8 →
      exec .start s = .next (delivered s.owner (.err .badStartMarker) { s with rxq := [] }))

/-- R124: DATA while the frame stays short: the byte is stored at its position whatever its value, and nothing else
changes. The HEX_ and NONHEX rows are this step where a digit is wanted, ANY where the byte is not examined (log 7). -/
def Obligations.DataStoresByte : Prop :=
  ∀ (s : State) (b : Byte) (r : List Byte) (i : Instr),
    s.fstate = .collect → s.chFault = false → s.rxq = b :: r → s.cnt + 1 < frameLen s.datasize →
    (i = .data ∨ (s.ctx.wantsDigit ∧ ((i, b) ∈ hexRows ∨ (i = .nonhex b ∧ isHex b = false))) ∨
      (s.ctx.ignoresByte ∧ i = .any b)) →
    exec i s = .next { s with rxq := r, fb := s.fb.setIfInBounds s.cnt b, cnt := s.cnt + 1 }

/-- R124, R125, R168, R169: the byte that completes the frame. The payload is checked first; then, with CFG.CKEN = 1,
the checksum field and the checksum; errors flush, success does not and delivers the payload. DATA and ANY do this; that
the row ANY is the DATA step is the model's reading of the table (log 7), so this is derived. -/
def Obligations.LastByteValidates : Prop :=
  ∀ (s : State) (b : Byte) (r : List Byte) (i : Instr),
    s.fstate = .collect → s.chFault = false → s.rxq = b :: r → s.cnt + 1 = frameLen s.datasize →
    (i = .data ∨ i = .any b) →
    let t : State := { s with rxq := r, fb := s.fb.setIfInBounds s.cnt b, cnt := s.cnt + 1 }
    let f := t.fb.toList
    (payloadOk f = false → exec i s = .next (delivered s.owner (.err .malformedPayload) { t with rxq := [] })) ∧
    (payloadOk f = true → s.cken = true → ckFieldOk f = false →
      exec i s = .next (delivered s.owner (.err .checksumMismatch) { t with rxq := [] })) ∧
    (payloadOk f = true → s.cken = true → ckFieldOk f = true → ckCalc f ≠ ckRx f →
      exec i s = .next (delivered s.owner (.err .checksumMismatch) { t with rxq := [] })) ∧
    (payloadOk f = true → s.cken = false ∨ (ckFieldOk f = true ∧ ckCalc f = ckRx f) →
      ∃ v, payload f = some v ∧ exec i s = .next (delivered s.owner (.ok v) t))

/-- R127: FAULT ends the operation in flight with StreamFault and no flush; while the channel has failed none of
START, DATA, TMO0 and TMO is enabled. -/
def Obligations.ChannelFaultEndsOperation : Prop :=
  ∀ s : State, s.chFault = true →
    (s.fstate ≠ .idle → exec .fault s = .next (delivered s.owner (.err .streamFault) s)) ∧
    ¬ StartEnabled s ∧ ¬ DataEnabled s ∧ ¬ Tmo0Enabled s ∧ ¬ TmoReady s

/-- 00 R13: a step is enabled when its precondition holds. That the schedule's turn for a step that is not enabled
changes nothing is the model's reading (log 9): the engine steps, the byte rows and the frame rows; and a level equal
to the present one is no event (log 14). -/
def Obligations.DisabledStepsChangeNothing : Prop :=
  ∀ s : State,
    (¬ StartEnabled s → exec .start s = .next s ∧ exec .stx s = .next s) ∧
    (¬ DataEnabled s → exec .data s = .next s) ∧
    (¬ FaultEnabled s → exec .fault s = .next s) ∧
    (¬ GrantEnabled s → ∀ p, exec (.grant p) s = .next s) ∧
    ((s.line = true → exec .rise s = .next s) ∧ (s.line = false → exec .fall s = .next s)) ∧
    (s.rxq.head? ≠ some 0x02#8 → exec .stx s = .next s) ∧
    (∀ i b, (i, b) ∈ hexRows ∨ i = .nonhex b →
      ¬ (DataEnabled s ∧ s.ctx.wantsDigit ∧ s.rxq.head? = some b) → exec i s = .next s) ∧
    (∀ b, ¬ (DataEnabled s ∧ s.ctx.ignoresByte ∧ s.rxq.head? = some b) → exec (.any b) s = .next s) ∧
    (∀ p0 p1 p2 p3 p4 p5 p6 p7 p8 p9 k0 k1 t0 t1 t2,
      ¬ (StartEnabled s ∧ s.datasize = .d16 ∧
        s.rxq.take 16 = [0x02#8, p0, p1, p2, p3, p4, p5, p6, p7, p8, p9, k0, k1, t0, t1, t2]) →
      exec (.frameA p0 p1 p2 p3 p4 p5 p6 p7 p8 p9 k0 k1 t0 t1 t2) s = .next s) ∧
    (∀ p0 p1 p2 p3 p4 p5 p6 p7 p8 p9 k0 k1 t0,
      ¬ (StartEnabled s ∧ s.datasize = .d14 ∧
        s.rxq.take 14 = [0x02#8, p0, p1, p2, p3, p4, p5, p6, p7, p8, p9, k0, k1, t0]) →
      exec (.frameB p0 p1 p2 p3 p4 p5 p6 p7 p8 p9 k0 k1 t0) s = .next s)

/-! ### Whole frames -/

/-- R131, R132: a whole frame of 16 bytes, taken by FRAME_A, gives the result of the reference function, discards what
follows it exactly when that is an error, and leaves the frame in FB. That the row takes its bytes in a row is the
model's reading of the table (log 8). -/
def Obligations.FrameAMeetsReference : Prop :=
  ∀ (p0 p1 p2 p3 p4 p5 p6 p7 p8 p9 k0 k1 t0 t1 t2 : Byte) (s : State) (r : List Byte),
    let f := [0x02#8, p0, p1, p2, p3, p4, p5, p6, p7, p8, p9, k0, k1, t0, t1, t2]
    s.fstate = .start → s.chFault = false → s.datasize = .d16 → s.rxq = f ++ r →
    ∃ res fb, decodeRef s.rxq .d16 s.cken = some res ∧ fb.toList = f ∧
      exec (.frameA p0 p1 p2 p3 p4 p5 p6 p7 p8 p9 k0 k1 t0 t1 t2) s =
        .next (delivered s.owner res
          { s with rxq := (match res with | .ok _ => r | .err _ => []), fb := fb, cnt := 16, tmr := 0 })

/-- R131, R132: the same for FRAME_B and 14 bytes; the last two bytes of FB are not written. That the row takes its bytes
in a row is the model's reading of the table (log 8). -/
def Obligations.FrameBMeetsReference : Prop :=
  ∀ (p0 p1 p2 p3 p4 p5 p6 p7 p8 p9 k0 k1 t0 : Byte) (s : State) (r : List Byte),
    let f := [0x02#8, p0, p1, p2, p3, p4, p5, p6, p7, p8, p9, k0, k1, t0]
    s.fstate = .start → s.chFault = false → s.datasize = .d14 → s.rxq = f ++ r →
    ∃ res fb, decodeRef s.rxq .d14 s.cken = some res ∧ fb.toList = f ++ s.fb.toList.drop 14 ∧
      exec (.frameB p0 p1 p2 p3 p4 p5 p6 p7 p8 p9 k0 k1 t0) s =
        .next (delivered s.owner res
          { s with rxq := (match res with | .ok _ => r | .err _ => []), fb := fb, cnt := 14, tmr := 0 })

/-- The frame rows are the engine's own steps (log 8): one item that takes a whole frame does what sixteen (fourteen)
turns of the engine do, when the bytes are already buffered. -/
def Obligations.FrameItemEqualsEngineTurns : Prop :=
  ∀ (s : State) (p : Requester) (rest : List Item) (f r : List Byte),
    s.fstate = .start → s.chFault = false → s.rxq = 0x02#8 :: f ++ r → f.length + 1 = frameLen s.datasize →
    Host.Core.run core (frameLen s.datasize)
        { s with trace := List.replicate (frameLen s.datasize) { after := 0, signal := .engine p } ++ rest } =
      step { s with trace := { after := 0, signal := .takeFrame } :: rest }

/-- R171, R133: the round trip. The frame of any 40-bit value, in upper or lower case, for either variant and with
CFG.CKEN 0 or 1, decodes to exactly that value, and the bytes behind it stay. -/
def Obligations.RoundTripOfEveryTagValue : Prop :=
  ∀ (v : TagValue) (upper : Bool) (s : State) (r : List Byte),
    s.fstate = .start → s.chFault = false → s.rxq = frameOf s.datasize upper v ++ r →
    ∃ i fb, decode s.ctx (.frame (frameOf s.datasize upper v)) = .ok i ∧
      exec i s = .next (delivered s.owner (.ok v)
        { s with rxq := r, fb := fb, cnt := frameLen s.datasize, tmr := 0 })

/-! ### The whole machine -/

/-- R7, R22, R26, R27, R34, R40, R42, and 44 R202: the invariant holds at launch. -/
def Obligations.InvariantAtLaunch : Prop := ∀ a : Config.LaunchArgs, BlockInv (State.launch a)

/-- Every step of the machine keeps the invariant. -/
def Obligations.InvariantKeptByEveryStep : Prop :=
  ∀ s t : State, BlockInv s → step s = .next t → BlockInv t

/-- Every instruction answers a next state in every state: no error stops the block (R232, R233). -/
def Obligations.NoInstructionStopsTheBlock : Prop :=
  ∀ (i : Instr) (s : State), ∃ t, exec i s = .next t

/-- R211, R35: TAG changes only when a monitor's operation ends or when an edge is granted. -/
def Obligations.OnlyTheMonitorWritesTag : Prop :=
  ∀ (i : Instr) (s t : State), exec i s = .next t → t.tag ≠ s.tag →
    (s.fstate ≠ .idle ∧ s.owner = .mon ∧ t.owner = .none) ∨
    (∃ p e r, i = .grant p ∧ s.fstate = .idle ∧ s.evq = e :: r ∧ t.evq = r ∧ t.tag = 0)

/-- R34: RESULT changes only when a host's operation ends, at a step that reports it by DONE. -/
def Obligations.OnlyHostCompletionsWriteResult : Prop :=
  ∀ (i : Instr) (s t : State), exec i s = .next t →
    (t.resValid ≠ s.resValid ∨ t.resKind ≠ s.resKind ∨ t.resValue ≠ s.resValue) →
    (s.owner = .host ∨ ∃ p, i = .grant p ∧ s.hreq = .readtag) ∧ t.owner = .none ∧ t.hreq = .none ∧
      t.resValid = true ∧
      ∃ res, t.outs = s.outs ++ [.done res] ∧ t.resKind = resultKind res ∧ t.resValue = resultValue res

/-- R46, R237: only reset clears CH_FAULT. -/
def Obligations.OnlyResetClearsChannelFault : Prop :=
  ∀ s t : State, step s = .next t → s.chFault = true → t.chFault = false →
    ∃ a it rest, s.trace = it :: rest ∧ it.signal = .reset a

/-- R81: the configuration is constant while an operation is in flight. -/
def Obligations.ConfigurationConstantInFlight : Prop :=
  ∀ (i : Instr) (s t : State), s.fstate ≠ .idle → exec i s = .next t →
    t.datasize = s.datasize ∧ t.cken = s.cken ∧ t.tframe = s.tframe

/-- R75: while an operation is in flight, nothing but its own steps (the byte and frame rows, START, DATA, TMO0, TMO)
takes or discards bytes: every other instruction leaves RXQ or appends to it. -/
def Obligations.SingleReaderOfTheChannel : Prop :=
  ∀ (i : Instr) (s t : State), s.fstate ≠ .idle → exec i s = .next t →
    (i = .readtag ∨ i = .clrbuf ∨ i = .gettag ∨ i = .install ∨ i = .uninstall ∨ (∃ x y, i = .cfgwr x y) ∨
      i = .cmdNone ∨ i = .cmdReserved ∨ (∃ b, i = .rx b) ∨ i = .sfault ∨ i = .rise ∨ i = .fall ∨
      (∃ p, i = .grant p) ∨ i = .fault) →
    ∃ bs, t.rxq = s.rxq ++ bs

/-- R60, R82: the block never reorders, duplicates or skips a byte except by a flush. RX appends its byte. START, DATA and
the byte rows take one byte, which is in FB afterwards unless an error flushed; a frame row takes CFG.DATASIZE bytes.
The flushes are those of R82: a framing error of the operation in flight, the grant of CLRBUF, and the grant of a
falling edge. Every other step leaves RXQ. That a step not enabled leaves it too is the model's reading (log 9), as are
the byte and frame rows (log 7, log 8). -/
def Obligations.ReceiveQueueKeepsOrder : Prop :=
  ∀ (i : Instr) (s t : State), exec i s = .next t →
    (∀ b, i = .rx b → t.rxq = s.rxq ++ [b]) ∧
    (i = .start ∨ i = .stx →
      t = s ∨ (s.rxq = 0x02#8 :: t.rxq ∧ t.cnt = 1 ∧ t.fb = s.fb.set 0 0x02#8) ∨ FramingFlush s t) ∧
    (i = .data ∨ (rowKind i = .byte ∧ i ≠ .stx) →
      t = s ∨ (∃ b, s.rxq = b :: t.rxq ∧ t.cnt = s.cnt + 1 ∧ t.fb = s.fb.setIfInBounds s.cnt b) ∨
        FramingFlush s t) ∧
    (rowKind i = .frame →
      t = s ∨ (t.rxq = s.rxq.drop (frameLen s.datasize) ∧
        t.fb.toList.take (frameLen s.datasize) = s.rxq.take (frameLen s.datasize)) ∨ FramingFlush s t) ∧
    (i = .tmo → t = s ∨ FramingFlush s t) ∧
    (∀ p, i = .grant p →
      t.rxq = s.rxq ∨
      (t.rxq = [] ∧ s.hreq = .clrbuf ∧ t.hreq = .none ∧ t.outs = s.outs ++ [.clrDone]) ∨
      (t.rxq = [] ∧ s.evq = .fall :: t.evq ∧ t.outs = s.outs ++ [.tagUpd 0])) ∧
    (rowKind i = .command ∨ i = .tmo0 ∨ i = .sfault ∨ i = .rise ∨ i = .fall ∨ i = .fault → t.rxq = s.rxq)

/-- R43, R76, R239: edges enter EVQ at the end by a level change, leave at the front by a grant, and are dropped only by
INSTALL and UNINSTALL. -/
def Obligations.EdgesAreHandledInOrder : Prop :=
  ∀ (i : Instr) (s t : State), exec i s = .next t → t.evq ≠ s.evq →
    ((i = .rise ∨ i = .fall) ∧ ∃ e, t.evq = s.evq ++ [e]) ∨
    ((∃ p, i = .grant p) ∧ ∃ e, s.evq = e :: t.evq) ∨
    ((i = .install ∨ i = .uninstall) ∧ t.evq = [])

/-- R207, R209: when an operation of the monitor ends, TAG holds the payload of the frame taken if the frame passes every
enabled check, and 0 in every other case (a framing error, StreamFault, the zero-byte timeout); PSTATE is Present,
TAGUPD is the only output, and RESULT and HREQ are untouched: no error leaves the block. The rows ANY, FRAME_A and
FRAME_B end an operation by the reading of log 7 and log 8. -/
def Obligations.MonitorSwallowsErrors : Prop :=
  ∀ (i : Instr) (s t : State), s.fstate ≠ .idle → s.owner = .mon → exec i s = .next t → t.fstate = .idle →
    let f := t.fb.toList
    let takesLast := i = .data ∨ (∃ b, i = .any b) ∨ rowKind i = .frame
    let passes := payloadOk f = true ∧ (s.cken = true → ckFieldOk f = true ∧ ckCalc f = ckRx f)
    (takesLast → passes → payload f = some t.tag) ∧ (takesLast → ¬ passes → t.tag = 0) ∧ (¬ takesLast → t.tag = 0) ∧
    t.pstate = .present ∧ t.owner = .none ∧ t.outs = s.outs ++ [.tagUpd t.tag] ∧
      t.resValid = s.resValid ∧ t.resKind = s.resKind ∧ t.resValue = s.resValue ∧ t.hreq = s.hreq

/-- R169: with CFG.CKEN = 0 no instruction reports ChecksumMismatch. -/
def Obligations.NoChecksumErrorWhenDisabled : Prop :=
  ∀ (i : Instr) (s t : State), s.cken = false → exec i s = .next t →
    t.outs ≠ s.outs ++ [.done (.err .checksumMismatch)]

/-- R129: in a state that meets the invariant, an operation is blocked in exactly two situations, and only RX, TMO0,
TMO or SFAULT ends the wait: every other instruction leaves it blocked with the operation as it is. The wait for the
first byte counts whether or not the channel is non-blocking, since a channel that has reported has ended it: R129's
second sentence, against its first (log 18). The wait of 00 R15 differs only in a short frame whose time has run out
and whose TMO has not happened yet. -/
def Obligations.BlockedOnlyInTwoSituations : Prop :=
  ∀ s : State, BlockInv s →
    (Blocked s ↔
      (s.fstate = .start ∧ s.rxq = [] ∧ s.chFault = false) ∨
      (s.fstate = .collect ∧ s.rxq = [] ∧ s.cnt < frameLen s.datasize ∧ s.chFault = false ∧ s.tmr < s.tframe)) ∧
    (Waiting s ↔ Blocked s ∨ (TmoReady s ∧ s.tframe ≤ s.tmr)) ∧
    (Blocked s → ∀ i t, exec i s = .next t → (∀ b, i ≠ .rx b) → i ≠ .tmo0 → i ≠ .tmo → i ≠ .sfault →
      Blocked t ∧ t.fstate = s.fstate ∧ t.owner = s.owner ∧ t.cnt = s.cnt ∧ t.fb = s.fb)

/-- R71: clearing the buffer twice leaves the same state as clearing it once, but for the second CLRDONE. -/
def Obligations.ClearBufferIsIdempotent : Prop :=
  ∀ (s : State) (p : Requester), s.fstate = .idle → s.hreq = .clrbuf → s.evq = [] →
    ∃ t u, exec (.grant p) s = .next t ∧ t.rxq = [] ∧ t.hreq = .none ∧
      exec .clrbuf t = .next u ∧ exec (.grant p) u = .next { t with outs := t.outs ++ [.clrDone] }

/-- R243, R41, R42, R48: only INSTALL and UNINSTALL write MON_EN, only a level change writes LINE, only those three
write LINE_Q, and PSTATE is written only by INSTALL and at the end of an edge's action. -/
def Obligations.MonitorStateWriters : Prop :=
  ∀ (i : Instr) (s t : State), exec i s = .next t →
    (t.monEn ≠ s.monEn → i = .install ∨ i = .uninstall) ∧
    (t.line ≠ s.line → i = .rise ∨ i = .fall) ∧
    (t.lineQ ≠ s.lineQ → i = .install ∨ i = .rise ∨ i = .fall) ∧
    (t.pstate ≠ s.pstate → i = .install ∨ (s.fstate ≠ .idle ∧ s.owner = .mon ∧ t.owner = .none) ∨
      (∃ p e r, i = .grant p ∧ s.evq = e :: r ∧ t.evq = r))

/-- R7, R13, R20, R23, R44: no instruction writes the platform constants or the model's schedule, outputs are only ever
added, and FB, CNT and TMR change only in the engine's own steps: FB and CNT where bytes of a frame are taken, CNT also
at a grant, TMR where the start marker is taken. (Time, which moves TMR in F_COLLECT, passes before an instruction.) -/
def Obligations.ConstantsAndBufferWriters : Prop :=
  ∀ (i : Instr) (s t : State), exec i s = .next t →
    t.chNonblock = s.chNonblock ∧ t.linePresent = s.linePresent ∧ t.trace = s.trace ∧
    (∃ o, t.outs = s.outs ++ o) ∧
    (t.fb ≠ s.fb → TakesBytes i) ∧
    (t.cnt ≠ s.cnt → TakesBytes i ∨ ∃ p, i = .grant p) ∧
    (t.tmr ≠ s.tmr → i = .start ∨ i = .stx ∨ rowKind i = .frame) ∧
    (s.fstate = .idle → t.fb = s.fb ∧ t.tmr = s.tmr ∧ (t.cnt ≠ s.cnt → ∃ p, i = .grant p))

/-- R30, R231, R190: the fields of the host-visible registers at their places, the code of every value written out, and
the registers that a host read returns. -/
def Obligations.RegisterViewsShowFields : Prop :=
  ∀ s : State,
    (readReg .cfg s = (cr0 s).toNat ∧ readReg .status s = (cr2 s).toNat ∧ readReg .resultKind s = (cr3 s).toNat ∧
      readReg .resultValue s = s.resValue.toNat ∧ readReg .tag s = s.tag.toNat ∧ readReg .tframe s = s.tframe) ∧
    ((s.datasize = .d14 → (cr0 s).extractLsb' 0 5 = 14#5) ∧ (s.datasize = .d16 → (cr0 s).extractLsb' 0 5 = 16#5) ∧
      (cr0 s).extractLsb' 5 3 = 0#3 ∧ (cr0 s).getLsbD 8 = s.cken) ∧
    ((s.fstate = .idle → (cr2 s).extractLsb' 0 2 = 0#2) ∧ (s.fstate = .start → (cr2 s).extractLsb' 0 2 = 1#2) ∧
      (s.fstate = .collect → (cr2 s).extractLsb' 0 2 = 2#2)) ∧
    ((s.owner = .none → (cr2 s).extractLsb' 2 2 = 0#2) ∧ (s.owner = .host → (cr2 s).extractLsb' 2 2 = 1#2) ∧
      (s.owner = .mon → (cr2 s).extractLsb' 2 2 = 2#2)) ∧
    ((cr2 s).getLsbD 4 = s.chFault ∧ (cr2 s).getLsbD 5 = s.monEn ∧ (cr2 s).getLsbD 7 = false ∧
      (s.pstate = .idle → (cr2 s).getLsbD 6 = false) ∧ (s.pstate = .present → (cr2 s).getLsbD 6 = true)) ∧
    ((s.hreq = .none → (cr2 s).extractLsb' 8 2 = 0#2) ∧ (s.hreq = .readtag → (cr2 s).extractLsb' 8 2 = 1#2) ∧
      (s.hreq = .clrbuf → (cr2 s).extractLsb' 8 2 = 2#2)) ∧
    ((s.resKind = .ok → (cr3 s).extractLsb' 0 3 = 0#3) ∧
      (s.resKind = .err .incompleteFrame → (cr3 s).extractLsb' 0 3 = 1#3) ∧
      (s.resKind = .err .badStartMarker → (cr3 s).extractLsb' 0 3 = 2#3) ∧
      (s.resKind = .err .malformedPayload → (cr3 s).extractLsb' 0 3 = 3#3) ∧
      (s.resKind = .err .checksumMismatch → (cr3 s).extractLsb' 0 3 = 4#3) ∧
      (s.resKind = .err .streamFault → (cr3 s).extractLsb' 0 3 = 5#3) ∧
      (cr3 s).extractLsb' 3 4 = 0#4 ∧ (cr3 s).getLsbD 7 = s.resValid)

/-- R130, R207, R209: what complete(res) gives the owner of the operation, for Ok(v) and for every Err(K) written out: to
the host RESULT with its kind and value, the freed slot and DONE; to the monitor TAG, PSTATE and TAGUPD; the engine is
idle. This is what `delivered` stands for in the other statements. -/
def Obligations.CompletionReachesOwner : Prop :=
  ∀ (s : State) (v : TagValue) (k : ErrKind),
    (s.owner = .host →
      complete (.ok v) s =
        { s with
          resValid := true, resKind := .ok, resValue := v, hreq := .none
          outs := s.outs ++ [.done (.ok v)], owner := .none, fstate := .idle } ∧
      complete (.err k) s =
        { s with
          resValid := true, resKind := .err k, resValue := 0, hreq := .none
          outs := s.outs ++ [.done (.err k)], owner := .none, fstate := .idle }) ∧
    (s.owner = .mon →
      complete (.ok v) s =
        { s with tag := v, pstate := .present, outs := s.outs ++ [.tagUpd v], owner := .none, fstate := .idle } ∧
      complete (.err k) s =
        { s with tag := 0, pstate := .present, outs := s.outs ++ [.tagUpd 0], owner := .none, fstate := .idle }) ∧
    (∀ res, delivered s.owner res s = complete res s)

/-- R281: in a state that meets the invariant, a trace that has ended takes no further step and reports what its end
state holds; it ends either idle with nothing waiting or blocked, and blocked means an operation that waits for a byte
on a channel that has not failed. That a step with nothing scheduled changes nothing is the model's form (log 1). -/
def Obligations.TraceEndsIdleOrBlocked : Prop :=
  ∀ s : State, BlockInv s →
    (¬ TraceEnded s → endReport s = none) ∧
    (TraceEnded s →
      step s = .next s ∧
      ∃ r, endReport s = some r ∧
        r.tag = s.tag ∧ r.resValid = s.resValid ∧ r.resKind = s.resKind ∧ r.resValue = s.resValue ∧
        r.rxq = s.rxq ∧ r.pstate = s.pstate ∧ r.fstate = s.fstate ∧ r.outs = s.outs ∧
        ((r.blocked = false ∧ s.fstate = .idle ∧ s.hreq = .none ∧ s.evq = []) ∨
          (r.blocked = true ∧ Waiting s ∧ s.rxq = [] ∧ s.chFault = false)))
end

