-- ==== Sys2Proof/Laws/State.lean ====
section
/-! SUPPORT. What each shared operation leaves alone, one lemma per operation and field. -/

namespace Sys2Proof.Machine

variable (s : State)

@[simp] theorem rxFlush_datasize : (rxFlush s).datasize = s.datasize := rfl
@[simp] theorem rxFlush_cken : (rxFlush s).cken = s.cken := rfl
@[simp] theorem rxFlush_tframe : (rxFlush s).tframe = s.tframe := rfl
@[simp] theorem rxFlush_fstate : (rxFlush s).fstate = s.fstate := rfl
@[simp] theorem rxFlush_owner : (rxFlush s).owner = s.owner := rfl
@[simp] theorem rxFlush_cnt : (rxFlush s).cnt = s.cnt := rfl
@[simp] theorem rxFlush_fb : (rxFlush s).fb = s.fb := rfl
@[simp] theorem rxFlush_tmr : (rxFlush s).tmr = s.tmr := rfl
@[simp] theorem rxFlush_hreq : (rxFlush s).hreq = s.hreq := rfl
@[simp] theorem rxFlush_resValid : (rxFlush s).resValid = s.resValid := rfl
@[simp] theorem rxFlush_resKind : (rxFlush s).resKind = s.resKind := rfl
@[simp] theorem rxFlush_resValue : (rxFlush s).resValue = s.resValue := rfl
@[simp] theorem rxFlush_monEn : (rxFlush s).monEn = s.monEn := rfl
@[simp] theorem rxFlush_pstate : (rxFlush s).pstate = s.pstate := rfl
@[simp] theorem rxFlush_lineQ : (rxFlush s).lineQ = s.lineQ := rfl
@[simp] theorem rxFlush_evq : (rxFlush s).evq = s.evq := rfl
@[simp] theorem rxFlush_tag : (rxFlush s).tag = s.tag := rfl
@[simp] theorem rxFlush_chFault : (rxFlush s).chFault = s.chFault := rfl
@[simp] theorem rxFlush_line : (rxFlush s).line = s.line := rfl
@[simp] theorem rxFlush_chNonblock : (rxFlush s).chNonblock = s.chNonblock := rfl
@[simp] theorem rxFlush_linePresent : (rxFlush s).linePresent = s.linePresent := rfl
@[simp] theorem rxFlush_trace : (rxFlush s).trace = s.trace := rfl
@[simp] theorem rxFlush_outs : (rxFlush s).outs = s.outs := rfl

@[simp] theorem emit_datasize (o : Output) : (emit o s).datasize = s.datasize := rfl
@[simp] theorem emit_cken (o : Output) : (emit o s).cken = s.cken := rfl
@[simp] theorem emit_tframe (o : Output) : (emit o s).tframe = s.tframe := rfl
@[simp] theorem emit_fstate (o : Output) : (emit o s).fstate = s.fstate := rfl
@[simp] theorem emit_owner (o : Output) : (emit o s).owner = s.owner := rfl
@[simp] theorem emit_cnt (o : Output) : (emit o s).cnt = s.cnt := rfl
@[simp] theorem emit_fb (o : Output) : (emit o s).fb = s.fb := rfl
@[simp] theorem emit_tmr (o : Output) : (emit o s).tmr = s.tmr := rfl
@[simp] theorem emit_hreq (o : Output) : (emit o s).hreq = s.hreq := rfl
@[simp] theorem emit_resValid (o : Output) : (emit o s).resValid = s.resValid := rfl
@[simp] theorem emit_resKind (o : Output) : (emit o s).resKind = s.resKind := rfl
@[simp] theorem emit_resValue (o : Output) : (emit o s).resValue = s.resValue := rfl
@[simp] theorem emit_monEn (o : Output) : (emit o s).monEn = s.monEn := rfl
@[simp] theorem emit_pstate (o : Output) : (emit o s).pstate = s.pstate := rfl
@[simp] theorem emit_lineQ (o : Output) : (emit o s).lineQ = s.lineQ := rfl
@[simp] theorem emit_evq (o : Output) : (emit o s).evq = s.evq := rfl
@[simp] theorem emit_tag (o : Output) : (emit o s).tag = s.tag := rfl
@[simp] theorem emit_rxq (o : Output) : (emit o s).rxq = s.rxq := rfl
@[simp] theorem emit_chFault (o : Output) : (emit o s).chFault = s.chFault := rfl
@[simp] theorem emit_line (o : Output) : (emit o s).line = s.line := rfl
@[simp] theorem emit_chNonblock (o : Output) : (emit o s).chNonblock = s.chNonblock := rfl
@[simp] theorem emit_linePresent (o : Output) : (emit o s).linePresent = s.linePresent := rfl
@[simp] theorem emit_trace (o : Output) : (emit o s).trace = s.trace := rfl

@[simp] theorem monComplete_datasize (res : DecRes) : (monComplete res s).datasize = s.datasize := rfl
@[simp] theorem monComplete_cken (res : DecRes) : (monComplete res s).cken = s.cken := rfl
@[simp] theorem monComplete_tframe (res : DecRes) : (monComplete res s).tframe = s.tframe := rfl
@[simp] theorem monComplete_fstate (res : DecRes) : (monComplete res s).fstate = s.fstate := rfl
@[simp] theorem monComplete_owner (res : DecRes) : (monComplete res s).owner = s.owner := rfl
@[simp] theorem monComplete_cnt (res : DecRes) : (monComplete res s).cnt = s.cnt := rfl
@[simp] theorem monComplete_fb (res : DecRes) : (monComplete res s).fb = s.fb := rfl
@[simp] theorem monComplete_tmr (res : DecRes) : (monComplete res s).tmr = s.tmr := rfl
@[simp] theorem monComplete_hreq (res : DecRes) : (monComplete res s).hreq = s.hreq := rfl
@[simp] theorem monComplete_resValid (res : DecRes) : (monComplete res s).resValid = s.resValid := rfl
@[simp] theorem monComplete_resKind (res : DecRes) : (monComplete res s).resKind = s.resKind := rfl
@[simp] theorem monComplete_resValue (res : DecRes) : (monComplete res s).resValue = s.resValue := rfl
@[simp] theorem monComplete_monEn (res : DecRes) : (monComplete res s).monEn = s.monEn := rfl
@[simp] theorem monComplete_lineQ (res : DecRes) : (monComplete res s).lineQ = s.lineQ := rfl
@[simp] theorem monComplete_evq (res : DecRes) : (monComplete res s).evq = s.evq := rfl
@[simp] theorem monComplete_rxq (res : DecRes) : (monComplete res s).rxq = s.rxq := rfl
@[simp] theorem monComplete_chFault (res : DecRes) : (monComplete res s).chFault = s.chFault := rfl
@[simp] theorem monComplete_line (res : DecRes) : (monComplete res s).line = s.line := rfl
@[simp] theorem monComplete_chNonblock (res : DecRes) : (monComplete res s).chNonblock = s.chNonblock := rfl
@[simp] theorem monComplete_linePresent (res : DecRes) : (monComplete res s).linePresent = s.linePresent := rfl
@[simp] theorem monComplete_trace (res : DecRes) : (monComplete res s).trace = s.trace := rfl

@[simp] theorem hostComplete_datasize (res : DecRes) : (hostComplete res s).datasize = s.datasize := rfl
@[simp] theorem hostComplete_cken (res : DecRes) : (hostComplete res s).cken = s.cken := rfl
@[simp] theorem hostComplete_tframe (res : DecRes) : (hostComplete res s).tframe = s.tframe := rfl
@[simp] theorem hostComplete_fstate (res : DecRes) : (hostComplete res s).fstate = s.fstate := rfl
@[simp] theorem hostComplete_owner (res : DecRes) : (hostComplete res s).owner = s.owner := rfl
@[simp] theorem hostComplete_cnt (res : DecRes) : (hostComplete res s).cnt = s.cnt := rfl
@[simp] theorem hostComplete_fb (res : DecRes) : (hostComplete res s).fb = s.fb := rfl
@[simp] theorem hostComplete_tmr (res : DecRes) : (hostComplete res s).tmr = s.tmr := rfl
@[simp] theorem hostComplete_monEn (res : DecRes) : (hostComplete res s).monEn = s.monEn := rfl
@[simp] theorem hostComplete_pstate (res : DecRes) : (hostComplete res s).pstate = s.pstate := rfl
@[simp] theorem hostComplete_lineQ (res : DecRes) : (hostComplete res s).lineQ = s.lineQ := rfl
@[simp] theorem hostComplete_evq (res : DecRes) : (hostComplete res s).evq = s.evq := rfl
@[simp] theorem hostComplete_tag (res : DecRes) : (hostComplete res s).tag = s.tag := rfl
@[simp] theorem hostComplete_rxq (res : DecRes) : (hostComplete res s).rxq = s.rxq := rfl
@[simp] theorem hostComplete_chFault (res : DecRes) : (hostComplete res s).chFault = s.chFault := rfl
@[simp] theorem hostComplete_line (res : DecRes) : (hostComplete res s).line = s.line := rfl
@[simp] theorem hostComplete_chNonblock (res : DecRes) : (hostComplete res s).chNonblock = s.chNonblock := rfl
@[simp] theorem hostComplete_linePresent (res : DecRes) : (hostComplete res s).linePresent = s.linePresent := rfl
@[simp] theorem hostComplete_trace (res : DecRes) : (hostComplete res s).trace = s.trace := rfl

@[simp] theorem complete_datasize (res : DecRes) : (complete res s).datasize = s.datasize := by
  unfold complete; split <;> rfl
@[simp] theorem complete_cken (res : DecRes) : (complete res s).cken = s.cken := by
  unfold complete; split <;> rfl
@[simp] theorem complete_tframe (res : DecRes) : (complete res s).tframe = s.tframe := by
  unfold complete; split <;> rfl
@[simp] theorem complete_cnt (res : DecRes) : (complete res s).cnt = s.cnt := by
  unfold complete; split <;> rfl
@[simp] theorem complete_fb (res : DecRes) : (complete res s).fb = s.fb := by
  unfold complete; split <;> rfl
@[simp] theorem complete_tmr (res : DecRes) : (complete res s).tmr = s.tmr := by
  unfold complete; split <;> rfl
@[simp] theorem complete_monEn (res : DecRes) : (complete res s).monEn = s.monEn := by
  unfold complete; split <;> rfl
@[simp] theorem complete_lineQ (res : DecRes) : (complete res s).lineQ = s.lineQ := by
  unfold complete; split <;> rfl
@[simp] theorem complete_evq (res : DecRes) : (complete res s).evq = s.evq := by
  unfold complete; split <;> rfl
@[simp] theorem complete_rxq (res : DecRes) : (complete res s).rxq = s.rxq := by
  unfold complete; split <;> rfl
@[simp] theorem complete_chFault (res : DecRes) : (complete res s).chFault = s.chFault := by
  unfold complete; split <;> rfl
@[simp] theorem complete_line (res : DecRes) : (complete res s).line = s.line := by
  unfold complete; split <;> rfl
@[simp] theorem complete_chNonblock (res : DecRes) : (complete res s).chNonblock = s.chNonblock := by
  unfold complete; split <;> rfl
@[simp] theorem complete_linePresent (res : DecRes) : (complete res s).linePresent = s.linePresent := by
  unfold complete; split <;> rfl
@[simp] theorem complete_trace (res : DecRes) : (complete res s).trace = s.trace := by
  unfold complete; split <;> rfl

@[simp] theorem raiseErr_datasize (k : ErrKind) : (raiseErr k s).datasize = s.datasize := by
  cases k <;> simp [raiseErr]
@[simp] theorem raiseErr_cken (k : ErrKind) : (raiseErr k s).cken = s.cken := by
  cases k <;> simp [raiseErr]
@[simp] theorem raiseErr_tframe (k : ErrKind) : (raiseErr k s).tframe = s.tframe := by
  cases k <;> simp [raiseErr]
@[simp] theorem raiseErr_cnt (k : ErrKind) : (raiseErr k s).cnt = s.cnt := by
  cases k <;> simp [raiseErr]
@[simp] theorem raiseErr_fb (k : ErrKind) : (raiseErr k s).fb = s.fb := by
  cases k <;> simp [raiseErr]
@[simp] theorem raiseErr_tmr (k : ErrKind) : (raiseErr k s).tmr = s.tmr := by
  cases k <;> simp [raiseErr]
@[simp] theorem raiseErr_monEn (k : ErrKind) : (raiseErr k s).monEn = s.monEn := by
  cases k <;> simp [raiseErr]
@[simp] theorem raiseErr_lineQ (k : ErrKind) : (raiseErr k s).lineQ = s.lineQ := by
  cases k <;> simp [raiseErr]
@[simp] theorem raiseErr_evq (k : ErrKind) : (raiseErr k s).evq = s.evq := by
  cases k <;> simp [raiseErr]
@[simp] theorem raiseErr_chFault (k : ErrKind) : (raiseErr k s).chFault = s.chFault := by
  cases k <;> simp [raiseErr]
@[simp] theorem raiseErr_line (k : ErrKind) : (raiseErr k s).line = s.line := by
  cases k <;> simp [raiseErr]
@[simp] theorem raiseErr_chNonblock (k : ErrKind) : (raiseErr k s).chNonblock = s.chNonblock := by
  cases k <;> simp [raiseErr]
@[simp] theorem raiseErr_linePresent (k : ErrKind) : (raiseErr k s).linePresent = s.linePresent := by
  cases k <;> simp [raiseErr]
@[simp] theorem raiseErr_trace (k : ErrKind) : (raiseErr k s).trace = s.trace := by
  cases k <;> simp [raiseErr]

@[simp] theorem finishFrame_datasize : (finishFrame s).datasize = s.datasize := by
  unfold finishFrame; split <;> simp
@[simp] theorem finishFrame_cken : (finishFrame s).cken = s.cken := by
  unfold finishFrame; split <;> simp
@[simp] theorem finishFrame_tframe : (finishFrame s).tframe = s.tframe := by
  unfold finishFrame; split <;> simp
@[simp] theorem finishFrame_cnt : (finishFrame s).cnt = s.cnt := by
  unfold finishFrame; split <;> simp
@[simp] theorem finishFrame_fb : (finishFrame s).fb = s.fb := by
  unfold finishFrame; split <;> simp
@[simp] theorem finishFrame_tmr : (finishFrame s).tmr = s.tmr := by
  unfold finishFrame; split <;> simp
@[simp] theorem finishFrame_monEn : (finishFrame s).monEn = s.monEn := by
  unfold finishFrame; split <;> simp
@[simp] theorem finishFrame_lineQ : (finishFrame s).lineQ = s.lineQ := by
  unfold finishFrame; split <;> simp
@[simp] theorem finishFrame_evq : (finishFrame s).evq = s.evq := by
  unfold finishFrame; split <;> simp
@[simp] theorem finishFrame_chFault : (finishFrame s).chFault = s.chFault := by
  unfold finishFrame; split <;> simp
@[simp] theorem finishFrame_line : (finishFrame s).line = s.line := by
  unfold finishFrame; split <;> simp
@[simp] theorem finishFrame_chNonblock : (finishFrame s).chNonblock = s.chNonblock := by
  unfold finishFrame; split <;> simp
@[simp] theorem finishFrame_linePresent : (finishFrame s).linePresent = s.linePresent := by
  unfold finishFrame; split <;> simp
@[simp] theorem finishFrame_trace : (finishFrame s).trace = s.trace := by
  unfold finishFrame; split <;> simp

@[simp] theorem startStep_datasize : (startStep s).datasize = s.datasize := by
  unfold startStep; repeat (first | rfl | split | simp)
@[simp] theorem startStep_cken : (startStep s).cken = s.cken := by
  unfold startStep; repeat (first | rfl | split | simp)
@[simp] theorem startStep_tframe : (startStep s).tframe = s.tframe := by
  unfold startStep; repeat (first | rfl | split | simp)
@[simp] theorem startStep_monEn : (startStep s).monEn = s.monEn := by
  unfold startStep; repeat (first | rfl | split | simp)
@[simp] theorem startStep_lineQ : (startStep s).lineQ = s.lineQ := by
  unfold startStep; repeat (first | rfl | split | simp)
@[simp] theorem startStep_evq : (startStep s).evq = s.evq := by
  unfold startStep; repeat (first | rfl | split | simp)
@[simp] theorem startStep_chFault : (startStep s).chFault = s.chFault := by
  unfold startStep; repeat (first | rfl | split | simp)
@[simp] theorem startStep_line : (startStep s).line = s.line := by
  unfold startStep; repeat (first | rfl | split | simp)
@[simp] theorem startStep_chNonblock : (startStep s).chNonblock = s.chNonblock := by
  unfold startStep; repeat (first | rfl | split | simp)
@[simp] theorem startStep_linePresent : (startStep s).linePresent = s.linePresent := by
  unfold startStep; repeat (first | rfl | split | simp)
@[simp] theorem startStep_trace : (startStep s).trace = s.trace := by
  unfold startStep; repeat (first | rfl | split | simp)

@[simp] theorem dataStep_datasize : (dataStep s).datasize = s.datasize := by
  unfold dataStep; repeat (first | rfl | split | simp)
@[simp] theorem dataStep_cken : (dataStep s).cken = s.cken := by
  unfold dataStep; repeat (first | rfl | split | simp)
@[simp] theorem dataStep_tframe : (dataStep s).tframe = s.tframe := by
  unfold dataStep; repeat (first | rfl | split | simp)
@[simp] theorem dataStep_tmr : (dataStep s).tmr = s.tmr := by
  unfold dataStep; repeat (first | rfl | split | simp)
@[simp] theorem dataStep_monEn : (dataStep s).monEn = s.monEn := by
  unfold dataStep; repeat (first | rfl | split | simp)
@[simp] theorem dataStep_lineQ : (dataStep s).lineQ = s.lineQ := by
  unfold dataStep; repeat (first | rfl | split | simp)
@[simp] theorem dataStep_evq : (dataStep s).evq = s.evq := by
  unfold dataStep; repeat (first | rfl | split | simp)
@[simp] theorem dataStep_chFault : (dataStep s).chFault = s.chFault := by
  unfold dataStep; repeat (first | rfl | split | simp)
@[simp] theorem dataStep_line : (dataStep s).line = s.line := by
  unfold dataStep; repeat (first | rfl | split | simp)
@[simp] theorem dataStep_chNonblock : (dataStep s).chNonblock = s.chNonblock := by
  unfold dataStep; repeat (first | rfl | split | simp)
@[simp] theorem dataStep_linePresent : (dataStep s).linePresent = s.linePresent := by
  unfold dataStep; repeat (first | rfl | split | simp)
@[simp] theorem dataStep_trace : (dataStep s).trace = s.trace := by
  unfold dataStep; repeat (first | rfl | split | simp)

@[simp] theorem faultStep_datasize : (faultStep s).datasize = s.datasize := by
  unfold faultStep; split <;> simp [raiseErr]
@[simp] theorem faultStep_cken : (faultStep s).cken = s.cken := by
  unfold faultStep; split <;> simp [raiseErr]
@[simp] theorem faultStep_tframe : (faultStep s).tframe = s.tframe := by
  unfold faultStep; split <;> simp [raiseErr]
@[simp] theorem faultStep_cnt : (faultStep s).cnt = s.cnt := by
  unfold faultStep; split <;> simp [raiseErr]
@[simp] theorem faultStep_fb : (faultStep s).fb = s.fb := by
  unfold faultStep; split <;> simp [raiseErr]
@[simp] theorem faultStep_tmr : (faultStep s).tmr = s.tmr := by
  unfold faultStep; split <;> simp [raiseErr]
@[simp] theorem faultStep_monEn : (faultStep s).monEn = s.monEn := by
  unfold faultStep; split <;> simp [raiseErr]
@[simp] theorem faultStep_lineQ : (faultStep s).lineQ = s.lineQ := by
  unfold faultStep; split <;> simp [raiseErr]
@[simp] theorem faultStep_evq : (faultStep s).evq = s.evq := by
  unfold faultStep; split <;> simp [raiseErr]
@[simp] theorem faultStep_rxq : (faultStep s).rxq = s.rxq := by
  unfold faultStep; split <;> simp [raiseErr]
@[simp] theorem faultStep_chFault : (faultStep s).chFault = s.chFault := by
  unfold faultStep; split <;> simp [raiseErr]
@[simp] theorem faultStep_line : (faultStep s).line = s.line := by
  unfold faultStep; split <;> simp [raiseErr]
@[simp] theorem faultStep_chNonblock : (faultStep s).chNonblock = s.chNonblock := by
  unfold faultStep; split <;> simp [raiseErr]
@[simp] theorem faultStep_linePresent : (faultStep s).linePresent = s.linePresent := by
  unfold faultStep; split <;> simp [raiseErr]
@[simp] theorem faultStep_trace : (faultStep s).trace = s.trace := by
  unfold faultStep; split <;> simp [raiseErr]

@[simp] theorem dataSteps_datasize : ∀ (n : Nat) (s : State), (dataSteps n s).datasize = s.datasize
  | 0, _ => rfl
  | n + 1, s => by rw [dataSteps, dataSteps_datasize n, dataStep_datasize]
@[simp] theorem dataSteps_cken : ∀ (n : Nat) (s : State), (dataSteps n s).cken = s.cken
  | 0, _ => rfl
  | n + 1, s => by rw [dataSteps, dataSteps_cken n, dataStep_cken]
@[simp] theorem dataSteps_tframe : ∀ (n : Nat) (s : State), (dataSteps n s).tframe = s.tframe
  | 0, _ => rfl
  | n + 1, s => by rw [dataSteps, dataSteps_tframe n, dataStep_tframe]
@[simp] theorem dataSteps_tmr : ∀ (n : Nat) (s : State), (dataSteps n s).tmr = s.tmr
  | 0, _ => rfl
  | n + 1, s => by rw [dataSteps, dataSteps_tmr n, dataStep_tmr]
@[simp] theorem dataSteps_monEn : ∀ (n : Nat) (s : State), (dataSteps n s).monEn = s.monEn
  | 0, _ => rfl
  | n + 1, s => by rw [dataSteps, dataSteps_monEn n, dataStep_monEn]
@[simp] theorem dataSteps_lineQ : ∀ (n : Nat) (s : State), (dataSteps n s).lineQ = s.lineQ
  | 0, _ => rfl
  | n + 1, s => by rw [dataSteps, dataSteps_lineQ n, dataStep_lineQ]
@[simp] theorem dataSteps_evq : ∀ (n : Nat) (s : State), (dataSteps n s).evq = s.evq
  | 0, _ => rfl
  | n + 1, s => by rw [dataSteps, dataSteps_evq n, dataStep_evq]
@[simp] theorem dataSteps_chFault : ∀ (n : Nat) (s : State), (dataSteps n s).chFault = s.chFault
  | 0, _ => rfl
  | n + 1, s => by rw [dataSteps, dataSteps_chFault n, dataStep_chFault]
@[simp] theorem dataSteps_line : ∀ (n : Nat) (s : State), (dataSteps n s).line = s.line
  | 0, _ => rfl
  | n + 1, s => by rw [dataSteps, dataSteps_line n, dataStep_line]
@[simp] theorem dataSteps_chNonblock : ∀ (n : Nat) (s : State), (dataSteps n s).chNonblock = s.chNonblock
  | 0, _ => rfl
  | n + 1, s => by rw [dataSteps, dataSteps_chNonblock n, dataStep_chNonblock]
@[simp] theorem dataSteps_linePresent : ∀ (n : Nat) (s : State), (dataSteps n s).linePresent = s.linePresent
  | 0, _ => rfl
  | n + 1, s => by rw [dataSteps, dataSteps_linePresent n, dataStep_linePresent]
@[simp] theorem dataSteps_trace : ∀ (n : Nat) (s : State), (dataSteps n s).trace = s.trace
  | 0, _ => rfl
  | n + 1, s => by rw [dataSteps, dataSteps_trace n, dataStep_trace]

@[simp] theorem wholeFrame_datasize (d : DataSize) (f : List Byte) : (wholeFrame d f s).datasize = s.datasize := by
  unfold wholeFrame; split <;> simp
@[simp] theorem wholeFrame_cken (d : DataSize) (f : List Byte) : (wholeFrame d f s).cken = s.cken := by
  unfold wholeFrame; split <;> simp
@[simp] theorem wholeFrame_tframe (d : DataSize) (f : List Byte) : (wholeFrame d f s).tframe = s.tframe := by
  unfold wholeFrame; split <;> simp
@[simp] theorem wholeFrame_monEn (d : DataSize) (f : List Byte) : (wholeFrame d f s).monEn = s.monEn := by
  unfold wholeFrame; split <;> simp
@[simp] theorem wholeFrame_lineQ (d : DataSize) (f : List Byte) : (wholeFrame d f s).lineQ = s.lineQ := by
  unfold wholeFrame; split <;> simp
@[simp] theorem wholeFrame_evq (d : DataSize) (f : List Byte) : (wholeFrame d f s).evq = s.evq := by
  unfold wholeFrame; split <;> simp
@[simp] theorem wholeFrame_chFault (d : DataSize) (f : List Byte) : (wholeFrame d f s).chFault = s.chFault := by
  unfold wholeFrame; split <;> simp
@[simp] theorem wholeFrame_line (d : DataSize) (f : List Byte) : (wholeFrame d f s).line = s.line := by
  unfold wholeFrame; split <;> simp
@[simp] theorem wholeFrame_chNonblock (d : DataSize) (f : List Byte) : (wholeFrame d f s).chNonblock = s.chNonblock := by
  unfold wholeFrame; split <;> simp
@[simp] theorem wholeFrame_linePresent (d : DataSize) (f : List Byte) : (wholeFrame d f s).linePresent = s.linePresent := by
  unfold wholeFrame; split <;> simp
@[simp] theorem wholeFrame_trace (d : DataSize) (f : List Byte) : (wholeFrame d f s).trace = s.trace := by
  unfold wholeFrame; split <;> simp

@[simp] theorem takeDigit_datasize (b : Byte) : (takeDigit b s).datasize = s.datasize := by
  unfold takeDigit; split <;> simp
@[simp] theorem takeDigit_cken (b : Byte) : (takeDigit b s).cken = s.cken := by
  unfold takeDigit; split <;> simp
@[simp] theorem takeDigit_tframe (b : Byte) : (takeDigit b s).tframe = s.tframe := by
  unfold takeDigit; split <;> simp
@[simp] theorem takeDigit_tmr (b : Byte) : (takeDigit b s).tmr = s.tmr := by
  unfold takeDigit; split <;> simp
@[simp] theorem takeDigit_monEn (b : Byte) : (takeDigit b s).monEn = s.monEn := by
  unfold takeDigit; split <;> simp
@[simp] theorem takeDigit_lineQ (b : Byte) : (takeDigit b s).lineQ = s.lineQ := by
  unfold takeDigit; split <;> simp
@[simp] theorem takeDigit_evq (b : Byte) : (takeDigit b s).evq = s.evq := by
  unfold takeDigit; split <;> simp
@[simp] theorem takeDigit_chFault (b : Byte) : (takeDigit b s).chFault = s.chFault := by
  unfold takeDigit; split <;> simp
@[simp] theorem takeDigit_line (b : Byte) : (takeDigit b s).line = s.line := by
  unfold takeDigit; split <;> simp
@[simp] theorem takeDigit_chNonblock (b : Byte) : (takeDigit b s).chNonblock = s.chNonblock := by
  unfold takeDigit; split <;> simp
@[simp] theorem takeDigit_linePresent (b : Byte) : (takeDigit b s).linePresent = s.linePresent := by
  unfold takeDigit; split <;> simp
@[simp] theorem takeDigit_trace (b : Byte) : (takeDigit b s).trace = s.trace := by
  unfold takeDigit; split <;> simp

@[simp] theorem takeAny_datasize (b : Byte) : (takeAny b s).datasize = s.datasize := by
  unfold takeAny; split <;> simp
@[simp] theorem takeAny_cken (b : Byte) : (takeAny b s).cken = s.cken := by
  unfold takeAny; split <;> simp
@[simp] theorem takeAny_tframe (b : Byte) : (takeAny b s).tframe = s.tframe := by
  unfold takeAny; split <;> simp
@[simp] theorem takeAny_tmr (b : Byte) : (takeAny b s).tmr = s.tmr := by
  unfold takeAny; split <;> simp
@[simp] theorem takeAny_monEn (b : Byte) : (takeAny b s).monEn = s.monEn := by
  unfold takeAny; split <;> simp
@[simp] theorem takeAny_lineQ (b : Byte) : (takeAny b s).lineQ = s.lineQ := by
  unfold takeAny; split <;> simp
@[simp] theorem takeAny_evq (b : Byte) : (takeAny b s).evq = s.evq := by
  unfold takeAny; split <;> simp
@[simp] theorem takeAny_chFault (b : Byte) : (takeAny b s).chFault = s.chFault := by
  unfold takeAny; split <;> simp
@[simp] theorem takeAny_line (b : Byte) : (takeAny b s).line = s.line := by
  unfold takeAny; split <;> simp
@[simp] theorem takeAny_chNonblock (b : Byte) : (takeAny b s).chNonblock = s.chNonblock := by
  unfold takeAny; split <;> simp
@[simp] theorem takeAny_linePresent (b : Byte) : (takeAny b s).linePresent = s.linePresent := by
  unfold takeAny; split <;> simp
@[simp] theorem takeAny_trace (b : Byte) : (takeAny b s).trace = s.trace := by
  unfold takeAny; split <;> simp

@[simp] theorem takeStx_datasize : (takeStx s).datasize = s.datasize := by
  unfold takeStx; split <;> simp
@[simp] theorem takeStx_cken : (takeStx s).cken = s.cken := by
  unfold takeStx; split <;> simp
@[simp] theorem takeStx_tframe : (takeStx s).tframe = s.tframe := by
  unfold takeStx; split <;> simp
@[simp] theorem takeStx_monEn : (takeStx s).monEn = s.monEn := by
  unfold takeStx; split <;> simp
@[simp] theorem takeStx_lineQ : (takeStx s).lineQ = s.lineQ := by
  unfold takeStx; split <;> simp
@[simp] theorem takeStx_evq : (takeStx s).evq = s.evq := by
  unfold takeStx; split <;> simp
@[simp] theorem takeStx_chFault : (takeStx s).chFault = s.chFault := by
  unfold takeStx; split <;> simp
@[simp] theorem takeStx_line : (takeStx s).line = s.line := by
  unfold takeStx; split <;> simp
@[simp] theorem takeStx_chNonblock : (takeStx s).chNonblock = s.chNonblock := by
  unfold takeStx; split <;> simp
@[simp] theorem takeStx_linePresent : (takeStx s).linePresent = s.linePresent := by
  unfold takeStx; split <;> simp
@[simp] theorem takeStx_trace : (takeStx s).trace = s.trace := by
  unfold takeStx; split <;> simp

@[simp] theorem beginDecode_datasize (o : Owner) : (beginDecode o s).datasize = s.datasize := by
  unfold beginDecode; split <;> simp [raiseErr]
@[simp] theorem beginDecode_cken (o : Owner) : (beginDecode o s).cken = s.cken := by
  unfold beginDecode; split <;> simp [raiseErr]
@[simp] theorem beginDecode_tframe (o : Owner) : (beginDecode o s).tframe = s.tframe := by
  unfold beginDecode; split <;> simp [raiseErr]
@[simp] theorem beginDecode_fb (o : Owner) : (beginDecode o s).fb = s.fb := by
  unfold beginDecode; split <;> simp [raiseErr]
@[simp] theorem beginDecode_tmr (o : Owner) : (beginDecode o s).tmr = s.tmr := by
  unfold beginDecode; split <;> simp [raiseErr]
@[simp] theorem beginDecode_monEn (o : Owner) : (beginDecode o s).monEn = s.monEn := by
  unfold beginDecode; split <;> simp [raiseErr]
@[simp] theorem beginDecode_lineQ (o : Owner) : (beginDecode o s).lineQ = s.lineQ := by
  unfold beginDecode; split <;> simp [raiseErr]
@[simp] theorem beginDecode_evq (o : Owner) : (beginDecode o s).evq = s.evq := by
  unfold beginDecode; split <;> simp [raiseErr]
@[simp] theorem beginDecode_rxq (o : Owner) : (beginDecode o s).rxq = s.rxq := by
  unfold beginDecode; split <;> simp [raiseErr]
@[simp] theorem beginDecode_chFault (o : Owner) : (beginDecode o s).chFault = s.chFault := by
  unfold beginDecode; split <;> simp [raiseErr]
@[simp] theorem beginDecode_line (o : Owner) : (beginDecode o s).line = s.line := by
  unfold beginDecode; split <;> simp [raiseErr]
@[simp] theorem beginDecode_chNonblock (o : Owner) : (beginDecode o s).chNonblock = s.chNonblock := by
  unfold beginDecode; split <;> simp [raiseErr]
@[simp] theorem beginDecode_linePresent (o : Owner) : (beginDecode o s).linePresent = s.linePresent := by
  unfold beginDecode; split <;> simp [raiseErr]
@[simp] theorem beginDecode_trace (o : Owner) : (beginDecode o s).trace = s.trace := by
  unfold beginDecode; split <;> simp [raiseErr]

@[simp] theorem grantHostClear_datasize : (grantHostClear s).datasize = s.datasize := rfl
@[simp] theorem grantHostClear_cken : (grantHostClear s).cken = s.cken := rfl
@[simp] theorem grantHostClear_tframe : (grantHostClear s).tframe = s.tframe := rfl
@[simp] theorem grantHostClear_fstate : (grantHostClear s).fstate = s.fstate := rfl
@[simp] theorem grantHostClear_owner : (grantHostClear s).owner = s.owner := rfl
@[simp] theorem grantHostClear_cnt : (grantHostClear s).cnt = s.cnt := rfl
@[simp] theorem grantHostClear_fb : (grantHostClear s).fb = s.fb := rfl
@[simp] theorem grantHostClear_tmr : (grantHostClear s).tmr = s.tmr := rfl
@[simp] theorem grantHostClear_resValid : (grantHostClear s).resValid = s.resValid := rfl
@[simp] theorem grantHostClear_resKind : (grantHostClear s).resKind = s.resKind := rfl
@[simp] theorem grantHostClear_resValue : (grantHostClear s).resValue = s.resValue := rfl
@[simp] theorem grantHostClear_monEn : (grantHostClear s).monEn = s.monEn := rfl
@[simp] theorem grantHostClear_pstate : (grantHostClear s).pstate = s.pstate := rfl
@[simp] theorem grantHostClear_lineQ : (grantHostClear s).lineQ = s.lineQ := rfl
@[simp] theorem grantHostClear_evq : (grantHostClear s).evq = s.evq := rfl
@[simp] theorem grantHostClear_tag : (grantHostClear s).tag = s.tag := rfl
@[simp] theorem grantHostClear_chFault : (grantHostClear s).chFault = s.chFault := rfl
@[simp] theorem grantHostClear_line : (grantHostClear s).line = s.line := rfl
@[simp] theorem grantHostClear_chNonblock : (grantHostClear s).chNonblock = s.chNonblock := rfl
@[simp] theorem grantHostClear_linePresent : (grantHostClear s).linePresent = s.linePresent := rfl
@[simp] theorem grantHostClear_trace : (grantHostClear s).trace = s.trace := rfl

@[simp] theorem grantHost_datasize : (grantHost s).datasize = s.datasize := by
  unfold grantHost; split <;> simp
@[simp] theorem grantHost_cken : (grantHost s).cken = s.cken := by
  unfold grantHost; split <;> simp
@[simp] theorem grantHost_tframe : (grantHost s).tframe = s.tframe := by
  unfold grantHost; split <;> simp
@[simp] theorem grantHost_fb : (grantHost s).fb = s.fb := by
  unfold grantHost; split <;> simp
@[simp] theorem grantHost_tmr : (grantHost s).tmr = s.tmr := by
  unfold grantHost; split <;> simp
@[simp] theorem grantHost_monEn : (grantHost s).monEn = s.monEn := by
  unfold grantHost; split <;> simp
@[simp] theorem grantHost_lineQ : (grantHost s).lineQ = s.lineQ := by
  unfold grantHost; split <;> simp
@[simp] theorem grantHost_evq : (grantHost s).evq = s.evq := by
  unfold grantHost; split <;> simp
@[simp] theorem grantHost_chFault : (grantHost s).chFault = s.chFault := by
  unfold grantHost; split <;> simp
@[simp] theorem grantHost_line : (grantHost s).line = s.line := by
  unfold grantHost; split <;> simp
@[simp] theorem grantHost_chNonblock : (grantHost s).chNonblock = s.chNonblock := by
  unfold grantHost; split <;> simp
@[simp] theorem grantHost_linePresent : (grantHost s).linePresent = s.linePresent := by
  unfold grantHost; split <;> simp
@[simp] theorem grantHost_trace : (grantHost s).trace = s.trace := by
  unfold grantHost; split <;> simp

@[simp] theorem fallAction_datasize : (fallAction s).datasize = s.datasize := rfl
@[simp] theorem fallAction_cken : (fallAction s).cken = s.cken := rfl
@[simp] theorem fallAction_tframe : (fallAction s).tframe = s.tframe := rfl
@[simp] theorem fallAction_fstate : (fallAction s).fstate = s.fstate := rfl
@[simp] theorem fallAction_owner : (fallAction s).owner = s.owner := rfl
@[simp] theorem fallAction_cnt : (fallAction s).cnt = s.cnt := rfl
@[simp] theorem fallAction_fb : (fallAction s).fb = s.fb := rfl
@[simp] theorem fallAction_tmr : (fallAction s).tmr = s.tmr := rfl
@[simp] theorem fallAction_hreq : (fallAction s).hreq = s.hreq := rfl
@[simp] theorem fallAction_resValid : (fallAction s).resValid = s.resValid := rfl
@[simp] theorem fallAction_resKind : (fallAction s).resKind = s.resKind := rfl
@[simp] theorem fallAction_resValue : (fallAction s).resValue = s.resValue := rfl
@[simp] theorem fallAction_monEn : (fallAction s).monEn = s.monEn := rfl
@[simp] theorem fallAction_lineQ : (fallAction s).lineQ = s.lineQ := rfl
@[simp] theorem fallAction_evq : (fallAction s).evq = s.evq := rfl
@[simp] theorem fallAction_chFault : (fallAction s).chFault = s.chFault := rfl
@[simp] theorem fallAction_line : (fallAction s).line = s.line := rfl
@[simp] theorem fallAction_chNonblock : (fallAction s).chNonblock = s.chNonblock := rfl
@[simp] theorem fallAction_linePresent : (fallAction s).linePresent = s.linePresent := rfl
@[simp] theorem fallAction_trace : (fallAction s).trace = s.trace := rfl

@[simp] theorem grantMonitor_datasize : (grantMonitor s).datasize = s.datasize := by
  unfold grantMonitor; split <;> simp
@[simp] theorem grantMonitor_cken : (grantMonitor s).cken = s.cken := by
  unfold grantMonitor; split <;> simp
@[simp] theorem grantMonitor_tframe : (grantMonitor s).tframe = s.tframe := by
  unfold grantMonitor; split <;> simp
@[simp] theorem grantMonitor_fb : (grantMonitor s).fb = s.fb := by
  unfold grantMonitor; split <;> simp
@[simp] theorem grantMonitor_tmr : (grantMonitor s).tmr = s.tmr := by
  unfold grantMonitor; split <;> simp
@[simp] theorem grantMonitor_monEn : (grantMonitor s).monEn = s.monEn := by
  unfold grantMonitor; split <;> simp
@[simp] theorem grantMonitor_lineQ : (grantMonitor s).lineQ = s.lineQ := by
  unfold grantMonitor; split <;> simp
@[simp] theorem grantMonitor_chFault : (grantMonitor s).chFault = s.chFault := by
  unfold grantMonitor; split <;> simp
@[simp] theorem grantMonitor_line : (grantMonitor s).line = s.line := by
  unfold grantMonitor; split <;> simp
@[simp] theorem grantMonitor_chNonblock : (grantMonitor s).chNonblock = s.chNonblock := by
  unfold grantMonitor; split <;> simp
@[simp] theorem grantMonitor_linePresent : (grantMonitor s).linePresent = s.linePresent := by
  unfold grantMonitor; split <;> simp
@[simp] theorem grantMonitor_trace : (grantMonitor s).trace = s.trace := by
  unfold grantMonitor; split <;> simp

@[simp] theorem grantStep_datasize (p : Requester) : (grantStep p s).datasize = s.datasize := by
  unfold grantStep; repeat (first | rfl | split | simp)
@[simp] theorem grantStep_cken (p : Requester) : (grantStep p s).cken = s.cken := by
  unfold grantStep; repeat (first | rfl | split | simp)
@[simp] theorem grantStep_tframe (p : Requester) : (grantStep p s).tframe = s.tframe := by
  unfold grantStep; repeat (first | rfl | split | simp)
@[simp] theorem grantStep_fb (p : Requester) : (grantStep p s).fb = s.fb := by
  unfold grantStep; repeat (first | rfl | split | simp)
@[simp] theorem grantStep_tmr (p : Requester) : (grantStep p s).tmr = s.tmr := by
  unfold grantStep; repeat (first | rfl | split | simp)
@[simp] theorem grantStep_monEn (p : Requester) : (grantStep p s).monEn = s.monEn := by
  unfold grantStep; repeat (first | rfl | split | simp)
@[simp] theorem grantStep_lineQ (p : Requester) : (grantStep p s).lineQ = s.lineQ := by
  unfold grantStep; repeat (first | rfl | split | simp)
@[simp] theorem grantStep_chFault (p : Requester) : (grantStep p s).chFault = s.chFault := by
  unfold grantStep; repeat (first | rfl | split | simp)
@[simp] theorem grantStep_line (p : Requester) : (grantStep p s).line = s.line := by
  unfold grantStep; repeat (first | rfl | split | simp)
@[simp] theorem grantStep_chNonblock (p : Requester) : (grantStep p s).chNonblock = s.chNonblock := by
  unfold grantStep; repeat (first | rfl | split | simp)
@[simp] theorem grantStep_linePresent (p : Requester) : (grantStep p s).linePresent = s.linePresent := by
  unfold grantStep; repeat (first | rfl | split | simp)
@[simp] theorem grantStep_trace (p : Requester) : (grantStep p s).trace = s.trace := by
  unfold grantStep; repeat (first | rfl | split | simp)

@[simp] theorem postRequest_datasize (r : HReq) : (postRequest r s).datasize = s.datasize := by
  unfold postRequest; split <;> rfl
@[simp] theorem postRequest_cken (r : HReq) : (postRequest r s).cken = s.cken := by
  unfold postRequest; split <;> rfl
@[simp] theorem postRequest_tframe (r : HReq) : (postRequest r s).tframe = s.tframe := by
  unfold postRequest; split <;> rfl
@[simp] theorem postRequest_fstate (r : HReq) : (postRequest r s).fstate = s.fstate := by
  unfold postRequest; split <;> rfl
@[simp] theorem postRequest_owner (r : HReq) : (postRequest r s).owner = s.owner := by
  unfold postRequest; split <;> rfl
@[simp] theorem postRequest_cnt (r : HReq) : (postRequest r s).cnt = s.cnt := by
  unfold postRequest; split <;> rfl
@[simp] theorem postRequest_fb (r : HReq) : (postRequest r s).fb = s.fb := by
  unfold postRequest; split <;> rfl
@[simp] theorem postRequest_tmr (r : HReq) : (postRequest r s).tmr = s.tmr := by
  unfold postRequest; split <;> rfl
@[simp] theorem postRequest_resValid (r : HReq) : (postRequest r s).resValid = s.resValid := by
  unfold postRequest; split <;> rfl
@[simp] theorem postRequest_resKind (r : HReq) : (postRequest r s).resKind = s.resKind := by
  unfold postRequest; split <;> rfl
@[simp] theorem postRequest_resValue (r : HReq) : (postRequest r s).resValue = s.resValue := by
  unfold postRequest; split <;> rfl
@[simp] theorem postRequest_monEn (r : HReq) : (postRequest r s).monEn = s.monEn := by
  unfold postRequest; split <;> rfl
@[simp] theorem postRequest_pstate (r : HReq) : (postRequest r s).pstate = s.pstate := by
  unfold postRequest; split <;> rfl
@[simp] theorem postRequest_lineQ (r : HReq) : (postRequest r s).lineQ = s.lineQ := by
  unfold postRequest; split <;> rfl
@[simp] theorem postRequest_evq (r : HReq) : (postRequest r s).evq = s.evq := by
  unfold postRequest; split <;> rfl
@[simp] theorem postRequest_tag (r : HReq) : (postRequest r s).tag = s.tag := by
  unfold postRequest; split <;> rfl
@[simp] theorem postRequest_rxq (r : HReq) : (postRequest r s).rxq = s.rxq := by
  unfold postRequest; split <;> rfl
@[simp] theorem postRequest_chFault (r : HReq) : (postRequest r s).chFault = s.chFault := by
  unfold postRequest; split <;> rfl
@[simp] theorem postRequest_line (r : HReq) : (postRequest r s).line = s.line := by
  unfold postRequest; split <;> rfl
@[simp] theorem postRequest_chNonblock (r : HReq) : (postRequest r s).chNonblock = s.chNonblock := by
  unfold postRequest; split <;> rfl
@[simp] theorem postRequest_linePresent (r : HReq) : (postRequest r s).linePresent = s.linePresent := by
  unfold postRequest; split <;> rfl
@[simp] theorem postRequest_trace (r : HReq) : (postRequest r s).trace = s.trace := by
  unfold postRequest; split <;> rfl
@[simp] theorem postRequest_outs (r : HReq) : (postRequest r s).outs = s.outs := by
  unfold postRequest; split <;> rfl

@[simp] theorem lineStep_datasize (l : Bool) : (lineStep l s).datasize = s.datasize := by
  unfold lineStep; repeat (first | rfl | split)
@[simp] theorem lineStep_cken (l : Bool) : (lineStep l s).cken = s.cken := by
  unfold lineStep; repeat (first | rfl | split)
@[simp] theorem lineStep_tframe (l : Bool) : (lineStep l s).tframe = s.tframe := by
  unfold lineStep; repeat (first | rfl | split)
@[simp] theorem lineStep_fstate (l : Bool) : (lineStep l s).fstate = s.fstate := by
  unfold lineStep; repeat (first | rfl | split)
@[simp] theorem lineStep_owner (l : Bool) : (lineStep l s).owner = s.owner := by
  unfold lineStep; repeat (first | rfl | split)
@[simp] theorem lineStep_cnt (l : Bool) : (lineStep l s).cnt = s.cnt := by
  unfold lineStep; repeat (first | rfl | split)
@[simp] theorem lineStep_fb (l : Bool) : (lineStep l s).fb = s.fb := by
  unfold lineStep; repeat (first | rfl | split)
@[simp] theorem lineStep_tmr (l : Bool) : (lineStep l s).tmr = s.tmr := by
  unfold lineStep; repeat (first | rfl | split)
@[simp] theorem lineStep_hreq (l : Bool) : (lineStep l s).hreq = s.hreq := by
  unfold lineStep; repeat (first | rfl | split)
@[simp] theorem lineStep_resValid (l : Bool) : (lineStep l s).resValid = s.resValid := by
  unfold lineStep; repeat (first | rfl | split)
@[simp] theorem lineStep_resKind (l : Bool) : (lineStep l s).resKind = s.resKind := by
  unfold lineStep; repeat (first | rfl | split)
@[simp] theorem lineStep_resValue (l : Bool) : (lineStep l s).resValue = s.resValue := by
  unfold lineStep; repeat (first | rfl | split)
@[simp] theorem lineStep_monEn (l : Bool) : (lineStep l s).monEn = s.monEn := by
  unfold lineStep; repeat (first | rfl | split)
@[simp] theorem lineStep_pstate (l : Bool) : (lineStep l s).pstate = s.pstate := by
  unfold lineStep; repeat (first | rfl | split)
@[simp] theorem lineStep_tag (l : Bool) : (lineStep l s).tag = s.tag := by
  unfold lineStep; repeat (first | rfl | split)
@[simp] theorem lineStep_rxq (l : Bool) : (lineStep l s).rxq = s.rxq := by
  unfold lineStep; repeat (first | rfl | split)
@[simp] theorem lineStep_chFault (l : Bool) : (lineStep l s).chFault = s.chFault := by
  unfold lineStep; repeat (first | rfl | split)
@[simp] theorem lineStep_chNonblock (l : Bool) : (lineStep l s).chNonblock = s.chNonblock := by
  unfold lineStep; repeat (first | rfl | split)
@[simp] theorem lineStep_linePresent (l : Bool) : (lineStep l s).linePresent = s.linePresent := by
  unfold lineStep; repeat (first | rfl | split)
@[simp] theorem lineStep_trace (l : Bool) : (lineStep l s).trace = s.trace := by
  unfold lineStep; repeat (first | rfl | split)
@[simp] theorem lineStep_outs (l : Bool) : (lineStep l s).outs = s.outs := by
  unfold lineStep; repeat (first | rfl | split)

@[simp] theorem writeCfg_fstate (sel val : Nat) : (writeCfg sel val s).fstate = s.fstate := by
  unfold writeCfg; repeat (first | rfl | split)
@[simp] theorem writeCfg_owner (sel val : Nat) : (writeCfg sel val s).owner = s.owner := by
  unfold writeCfg; repeat (first | rfl | split)
@[simp] theorem writeCfg_cnt (sel val : Nat) : (writeCfg sel val s).cnt = s.cnt := by
  unfold writeCfg; repeat (first | rfl | split)
@[simp] theorem writeCfg_fb (sel val : Nat) : (writeCfg sel val s).fb = s.fb := by
  unfold writeCfg; repeat (first | rfl | split)
@[simp] theorem writeCfg_tmr (sel val : Nat) : (writeCfg sel val s).tmr = s.tmr := by
  unfold writeCfg; repeat (first | rfl | split)
@[simp] theorem writeCfg_hreq (sel val : Nat) : (writeCfg sel val s).hreq = s.hreq := by
  unfold writeCfg; repeat (first | rfl | split)
@[simp] theorem writeCfg_resValid (sel val : Nat) : (writeCfg sel val s).resValid = s.resValid := by
  unfold writeCfg; repeat (first | rfl | split)
@[simp] theorem writeCfg_resKind (sel val : Nat) : (writeCfg sel val s).resKind = s.resKind := by
  unfold writeCfg; repeat (first | rfl | split)
@[simp] theorem writeCfg_resValue (sel val : Nat) : (writeCfg sel val s).resValue = s.resValue := by
  unfold writeCfg; repeat (first | rfl | split)
@[simp] theorem writeCfg_monEn (sel val : Nat) : (writeCfg sel val s).monEn = s.monEn := by
  unfold writeCfg; repeat (first | rfl | split)
@[simp] theorem writeCfg_pstate (sel val : Nat) : (writeCfg sel val s).pstate = s.pstate := by
  unfold writeCfg; repeat (first | rfl | split)
@[simp] theorem writeCfg_lineQ (sel val : Nat) : (writeCfg sel val s).lineQ = s.lineQ := by
  unfold writeCfg; repeat (first | rfl | split)
@[simp] theorem writeCfg_evq (sel val : Nat) : (writeCfg sel val s).evq = s.evq := by
  unfold writeCfg; repeat (first | rfl | split)
@[simp] theorem writeCfg_tag (sel val : Nat) : (writeCfg sel val s).tag = s.tag := by
  unfold writeCfg; repeat (first | rfl | split)
@[simp] theorem writeCfg_rxq (sel val : Nat) : (writeCfg sel val s).rxq = s.rxq := by
  unfold writeCfg; repeat (first | rfl | split)
@[simp] theorem writeCfg_chFault (sel val : Nat) : (writeCfg sel val s).chFault = s.chFault := by
  unfold writeCfg; repeat (first | rfl | split)
@[simp] theorem writeCfg_line (sel val : Nat) : (writeCfg sel val s).line = s.line := by
  unfold writeCfg; repeat (first | rfl | split)
@[simp] theorem writeCfg_chNonblock (sel val : Nat) : (writeCfg sel val s).chNonblock = s.chNonblock := by
  unfold writeCfg; repeat (first | rfl | split)
@[simp] theorem writeCfg_linePresent (sel val : Nat) : (writeCfg sel val s).linePresent = s.linePresent := by
  unfold writeCfg; repeat (first | rfl | split)
@[simp] theorem writeCfg_trace (sel val : Nat) : (writeCfg sel val s).trace = s.trace := by
  unfold writeCfg; repeat (first | rfl | split)
@[simp] theorem writeCfg_outs (sel val : Nat) : (writeCfg sel val s).outs = s.outs := by
  unfold writeCfg; repeat (first | rfl | split)

@[simp] theorem elapse_datasize (d : Duration) : (elapse d s).datasize = s.datasize := by
  unfold elapse; split <;> rfl
@[simp] theorem elapse_cken (d : Duration) : (elapse d s).cken = s.cken := by
  unfold elapse; split <;> rfl
@[simp] theorem elapse_tframe (d : Duration) : (elapse d s).tframe = s.tframe := by
  unfold elapse; split <;> rfl
@[simp] theorem elapse_fstate (d : Duration) : (elapse d s).fstate = s.fstate := by
  unfold elapse; split <;> rfl
@[simp] theorem elapse_owner (d : Duration) : (elapse d s).owner = s.owner := by
  unfold elapse; split <;> rfl
@[simp] theorem elapse_cnt (d : Duration) : (elapse d s).cnt = s.cnt := by
  unfold elapse; split <;> rfl
@[simp] theorem elapse_fb (d : Duration) : (elapse d s).fb = s.fb := by
  unfold elapse; split <;> rfl
@[simp] theorem elapse_hreq (d : Duration) : (elapse d s).hreq = s.hreq := by
  unfold elapse; split <;> rfl
@[simp] theorem elapse_resValid (d : Duration) : (elapse d s).resValid = s.resValid := by
  unfold elapse; split <;> rfl
@[simp] theorem elapse_resKind (d : Duration) : (elapse d s).resKind = s.resKind := by
  unfold elapse; split <;> rfl
@[simp] theorem elapse_resValue (d : Duration) : (elapse d s).resValue = s.resValue := by
  unfold elapse; split <;> rfl
@[simp] theorem elapse_monEn (d : Duration) : (elapse d s).monEn = s.monEn := by
  unfold elapse; split <;> rfl
@[simp] theorem elapse_pstate (d : Duration) : (elapse d s).pstate = s.pstate := by
  unfold elapse; split <;> rfl
@[simp] theorem elapse_lineQ (d : Duration) : (elapse d s).lineQ = s.lineQ := by
  unfold elapse; split <;> rfl
@[simp] theorem elapse_evq (d : Duration) : (elapse d s).evq = s.evq := by
  unfold elapse; split <;> rfl
@[simp] theorem elapse_tag (d : Duration) : (elapse d s).tag = s.tag := by
  unfold elapse; split <;> rfl
@[simp] theorem elapse_rxq (d : Duration) : (elapse d s).rxq = s.rxq := by
  unfold elapse; split <;> rfl
@[simp] theorem elapse_chFault (d : Duration) : (elapse d s).chFault = s.chFault := by
  unfold elapse; split <;> rfl
@[simp] theorem elapse_line (d : Duration) : (elapse d s).line = s.line := by
  unfold elapse; split <;> rfl
@[simp] theorem elapse_chNonblock (d : Duration) : (elapse d s).chNonblock = s.chNonblock := by
  unfold elapse; split <;> rfl
@[simp] theorem elapse_linePresent (d : Duration) : (elapse d s).linePresent = s.linePresent := by
  unfold elapse; split <;> rfl
@[simp] theorem elapse_trace (d : Duration) : (elapse d s).trace = s.trace := by
  unfold elapse; split <;> rfl
@[simp] theorem elapse_outs (d : Duration) : (elapse d s).outs = s.outs := by
  unfold elapse; split <;> rfl
@[simp] theorem takeUp_datasize (it : Item) (rest : List Item) : (takeUp it rest s).datasize = s.datasize := by
  simp [takeUp]
@[simp] theorem expire_datasize (it : Item) (rest : List Item) : (expire it rest s).datasize = s.datasize := rfl
@[simp] theorem takeUp_cken (it : Item) (rest : List Item) : (takeUp it rest s).cken = s.cken := by
  simp [takeUp]
@[simp] theorem expire_cken (it : Item) (rest : List Item) : (expire it rest s).cken = s.cken := rfl
@[simp] theorem takeUp_tframe (it : Item) (rest : List Item) : (takeUp it rest s).tframe = s.tframe := by
  simp [takeUp]
@[simp] theorem expire_tframe (it : Item) (rest : List Item) : (expire it rest s).tframe = s.tframe := rfl
@[simp] theorem takeUp_fstate (it : Item) (rest : List Item) : (takeUp it rest s).fstate = s.fstate := by
  simp [takeUp]
@[simp] theorem expire_fstate (it : Item) (rest : List Item) : (expire it rest s).fstate = s.fstate := rfl
@[simp] theorem takeUp_owner (it : Item) (rest : List Item) : (takeUp it rest s).owner = s.owner := by
  simp [takeUp]
@[simp] theorem expire_owner (it : Item) (rest : List Item) : (expire it rest s).owner = s.owner := rfl
@[simp] theorem takeUp_cnt (it : Item) (rest : List Item) : (takeUp it rest s).cnt = s.cnt := by
  simp [takeUp]
@[simp] theorem expire_cnt (it : Item) (rest : List Item) : (expire it rest s).cnt = s.cnt := rfl
@[simp] theorem takeUp_fb (it : Item) (rest : List Item) : (takeUp it rest s).fb = s.fb := by
  simp [takeUp]
@[simp] theorem expire_fb (it : Item) (rest : List Item) : (expire it rest s).fb = s.fb := rfl
@[simp] theorem takeUp_hreq (it : Item) (rest : List Item) : (takeUp it rest s).hreq = s.hreq := by
  simp [takeUp]
@[simp] theorem expire_hreq (it : Item) (rest : List Item) : (expire it rest s).hreq = s.hreq := rfl
@[simp] theorem takeUp_resValid (it : Item) (rest : List Item) : (takeUp it rest s).resValid = s.resValid := by
  simp [takeUp]
@[simp] theorem expire_resValid (it : Item) (rest : List Item) : (expire it rest s).resValid = s.resValid := rfl
@[simp] theorem takeUp_resKind (it : Item) (rest : List Item) : (takeUp it rest s).resKind = s.resKind := by
  simp [takeUp]
@[simp] theorem expire_resKind (it : Item) (rest : List Item) : (expire it rest s).resKind = s.resKind := rfl
@[simp] theorem takeUp_resValue (it : Item) (rest : List Item) : (takeUp it rest s).resValue = s.resValue := by
  simp [takeUp]
@[simp] theorem expire_resValue (it : Item) (rest : List Item) : (expire it rest s).resValue = s.resValue := rfl
@[simp] theorem takeUp_monEn (it : Item) (rest : List Item) : (takeUp it rest s).monEn = s.monEn := by
  simp [takeUp]
@[simp] theorem expire_monEn (it : Item) (rest : List Item) : (expire it rest s).monEn = s.monEn := rfl
@[simp] theorem takeUp_pstate (it : Item) (rest : List Item) : (takeUp it rest s).pstate = s.pstate := by
  simp [takeUp]
@[simp] theorem expire_pstate (it : Item) (rest : List Item) : (expire it rest s).pstate = s.pstate := rfl
@[simp] theorem takeUp_lineQ (it : Item) (rest : List Item) : (takeUp it rest s).lineQ = s.lineQ := by
  simp [takeUp]
@[simp] theorem expire_lineQ (it : Item) (rest : List Item) : (expire it rest s).lineQ = s.lineQ := rfl
@[simp] theorem takeUp_evq (it : Item) (rest : List Item) : (takeUp it rest s).evq = s.evq := by
  simp [takeUp]
@[simp] theorem expire_evq (it : Item) (rest : List Item) : (expire it rest s).evq = s.evq := rfl
@[simp] theorem takeUp_tag (it : Item) (rest : List Item) : (takeUp it rest s).tag = s.tag := by
  simp [takeUp]
@[simp] theorem expire_tag (it : Item) (rest : List Item) : (expire it rest s).tag = s.tag := rfl
@[simp] theorem takeUp_rxq (it : Item) (rest : List Item) : (takeUp it rest s).rxq = s.rxq := by
  simp [takeUp]
@[simp] theorem expire_rxq (it : Item) (rest : List Item) : (expire it rest s).rxq = s.rxq := rfl
@[simp] theorem takeUp_chFault (it : Item) (rest : List Item) : (takeUp it rest s).chFault = s.chFault := by
  simp [takeUp]
@[simp] theorem expire_chFault (it : Item) (rest : List Item) : (expire it rest s).chFault = s.chFault := rfl
@[simp] theorem takeUp_line (it : Item) (rest : List Item) : (takeUp it rest s).line = s.line := by
  simp [takeUp]
@[simp] theorem expire_line (it : Item) (rest : List Item) : (expire it rest s).line = s.line := rfl
@[simp] theorem takeUp_chNonblock (it : Item) (rest : List Item) : (takeUp it rest s).chNonblock = s.chNonblock := by
  simp [takeUp]
@[simp] theorem expire_chNonblock (it : Item) (rest : List Item) : (expire it rest s).chNonblock = s.chNonblock := rfl
@[simp] theorem takeUp_linePresent (it : Item) (rest : List Item) : (takeUp it rest s).linePresent = s.linePresent := by
  simp [takeUp]
@[simp] theorem expire_linePresent (it : Item) (rest : List Item) : (expire it rest s).linePresent = s.linePresent := rfl
@[simp] theorem takeUp_outs (it : Item) (rest : List Item) : (takeUp it rest s).outs = s.outs := by
  simp [takeUp]
@[simp] theorem expire_outs (it : Item) (rest : List Item) : (expire it rest s).outs = s.outs := rfl

end Sys2Proof.Machine
end

