-- ==== Sys2Proof/Laws/Ops.lean ====
section
/-! SUPPORT. One lemma per shared operation that says once what it does. -/

namespace Sys2Proof.Machine

open Sys2Proof.Safety

/-- complete(res) is delivery to the owner (40 R130, 44 R207). -/
theorem complete_eq_delivered (res : DecRes) (s : State) : complete res s = delivered s.owner res s := by
  unfold complete delivered; cases h : s.owner <;> rfl

/-- raise K: a framing kind flushes, StreamFault does not (60 R236, R237). -/
theorem raiseErr_eq_delivered (k : ErrKind) (s : State) :
    raiseErr k s = delivered s.owner (.err k)
      (if k = .streamFault then s else { s with rxq := [] }) := by
  cases k <;> simp [raiseErr, complete_eq_delivered, rxFlush]

/-- The engine is idle and unowned after a completion. -/
@[simp] theorem complete_fstate (res : DecRes) (s : State) : (complete res s).fstate = .idle := rfl

@[simp] theorem complete_owner (res : DecRes) (s : State) : (complete res s).owner = .none := rfl

@[simp] theorem raiseErr_fstate (k : ErrKind) (s : State) : (raiseErr k s).fstate = .idle := by
  cases k <;> rfl

@[simp] theorem raiseErr_owner (k : ErrKind) (s : State) : (raiseErr k s).owner = .none := by
  cases k <;> rfl

@[simp] theorem finishFrame_fstate (s : State) : (finishFrame s).fstate = .idle := by
  unfold finishFrame; split <;> simp

@[simp] theorem finishFrame_owner (s : State) : (finishFrame s).owner = .none := by
  unfold finishFrame; split <;> simp

/-- What a START step can do. -/
theorem startStep_cases (s : State) :
    startStep s = s ∨
    (∃ r, s.fstate = .start ∧ s.chFault = false ∧ s.rxq = Config.startMarker :: r ∧
      startStep s =
        { s with rxq := r, fb := s.fb.set 0 Config.startMarker, cnt := 1, tmr := 0, fstate := .collect }) ∨
    (∃ b r, s.fstate = .start ∧ s.chFault = false ∧ s.rxq = b :: r ∧ b ≠ Config.startMarker ∧
      startStep s = raiseErr .badStartMarker { s with rxq := r }) := by
  unfold startStep
  split
  · exact .inl rfl
  · rename_i b r h
    split
    · rename_i g
      split
      · rename_i e
        subst e
        exact .inr (.inl ⟨r, g.1, g.2, h, rfl⟩)
      · rename_i e
        exact .inr (.inr ⟨b, r, g.1, g.2, h, e, rfl⟩)
    · exact .inl rfl

/-- The state after a DATA step has stored its byte. -/
abbrev stored (b : Byte) (r : List Byte) (s : State) : State :=
  { s with rxq := r, fb := s.fb.setIfInBounds s.cnt b, cnt := s.cnt + 1 }

/-- What a DATA step can do. -/
theorem dataStep_cases (s : State) :
    dataStep s = s ∨
    (∃ b r, s.fstate = .collect ∧ s.chFault = false ∧ s.rxq = b :: r ∧ s.cnt + 1 < frameLen s.datasize ∧
      dataStep s = stored b r s) ∨
    (∃ b r, s.fstate = .collect ∧ s.chFault = false ∧ s.rxq = b :: r ∧ s.cnt + 1 = frameLen s.datasize ∧
      dataStep s = finishFrame (stored b r s)) := by
  unfold dataStep
  split
  · exact .inl rfl
  · rename_i b r h
    split
    · rename_i g
      split
      · rename_i e
        exact .inr (.inr ⟨b, r, g.1, g.2.1, h, e, rfl⟩)
      · rename_i e
        exact .inr (.inl ⟨b, r, g.1, g.2.1, h, by omega, rfl⟩)
    · exact .inl rfl

/-- What the beginning of a decode operation does (43 R182, 44 R206). -/
theorem beginDecode_eq (o : Owner) (s : State) :
    beginDecode o s = if s.chFault then delivered o (.err .streamFault) s
      else { s with owner := o, cnt := 0, fstate := .start } := by
  unfold beginDecode
  cases o <;> simp [raiseErr_eq_delivered, delivered]

/-- What a GRANT step can do (43 R181, R185, 44 R205, R208). -/
theorem grantStep_cases (p : Requester) (s : State) :
    grantStep p s = s ∨
    (s.fstate = .idle ∧ s.hreq = .readtag ∧ grantStep p s = beginDecode .host s) ∨
    (s.fstate = .idle ∧ s.hreq = .clrbuf ∧ grantStep p s = grantHostClear s) ∨
    (∃ r, s.fstate = .idle ∧ s.evq = .rise :: r ∧ grantStep p s = beginDecode .mon { s with evq := r }) ∨
    (∃ r, s.fstate = .idle ∧ s.evq = .fall :: r ∧ grantStep p s = fallAction { s with evq := r }) := by
  unfold grantStep
  split
  · rename_i hi
    split
    · unfold grantHost
      split
      · exact .inl rfl
      · rename_i h; exact .inr (.inl ⟨hi, h, rfl⟩)
      · rename_i h; exact .inr (.inr (.inl ⟨hi, h, rfl⟩))
    · unfold grantMonitor
      split
      · exact .inl rfl
      · rename_i r h; exact .inr (.inr (.inr (.inl ⟨r, hi, h, rfl⟩)))
      · rename_i r h; exact .inr (.inr (.inr (.inr ⟨r, hi, h, rfl⟩)))
    · exact .inl rfl
  · exact .inl rfl

end Sys2Proof.Machine
end

