-- ==== Sys2Proof/Laws/Fetch.lean ====
section
/-! SUPPORT. What one step does with an item of the schedule, and that a placed table word is the next to run. -/

namespace Sys2Proof.Machine

/-- With nothing scheduled nothing happens. -/
theorem step_nil {s : State} (h : s.trace = []) : step s = .next s := by
  simp [step, h]

/-- An item whose word decodes runs its instruction. -/
theorem step_instr {s : State} {it : Item} {rest : List Item} {i : Instr}
    (h : s.trace = it :: rest) (ht : ¬ TimerDue s it.after)
    (hi : fetchInstr it.signal (takeUp it rest s) = some i) : step s = exec i (takeUp it rest s) := by
  simp [step, h, ht, hi]

/-- The passage of time enables no engine step and disables none. -/
theorem engineEnabled_elapse (d : Duration) (s : State) : EngineEnabled (elapse d s) ↔ EngineEnabled s := by
  simp [EngineEnabled, GrantEnabled, StartEnabled, DataEnabled, FaultEnabled]

/-- The passage of time does not change what decoding reads. -/
@[simp] theorem ctx_elapse (d : Duration) (s : State) : (elapse d s).ctx = s.ctx := by
  simp [State.ctx]

/-- No time passes when none is due. -/
theorem elapse_zero (s : State) : elapse 0 s = s := by
  unfold elapse; split <;> rfl

/-- A table word placed for fetching runs the instruction that decodeTableWord reads from it. -/
theorem step_withFetchWord (s : State) (nbits w : Nat) (i : Instr) (h : decodeTableWord nbits w = some i) :
    ∃ it rest, step (s.withFetchWord nbits w) = exec i (takeUp it rest (s.withFetchWord nbits w)) := by
  unfold decodeTableWord at h
  cases hw : tableWord nbits w with
  | none => simp [hw] at h
  | some x =>
    simp only [hw] at h
    have hx : (∃ c v u, x = .cmd c v u) ∨
        (∃ b, x = .byte b ∧ (tableCtx nbits w).fstate ≠ .idle ∧
          ((tableCtx nbits w).pos ≤ 1 ∧ ((tableCtx nbits w).pos = 1 ↔ (tableCtx nbits w).fstate = .collect))) ∨
        (∃ f, x = .frame f ∧ f.length = frameLen (tableCtx nbits w).datasize ∧ f ≠ []) := by
      unfold tableWord at hw
      split at hw
      · rename_i e; subst e
        injection hw with hw
        exact .inr (.inr ⟨_, hw.symm, rfl, by simp [bytesOfNat]⟩)
      · split at hw
        · rename_i e; subst e
          injection hw with hw
          exact .inr (.inr ⟨_, hw.symm, rfl, by simp [bytesOfNat]⟩)
        · split at hw
          · split at hw
            · injection hw with hw; exact .inl ⟨_, _, _, hw.symm⟩
            · cases hw
          · split at hw
            · split at hw
              · injection hw with hw; exact .inl ⟨_, _, _, hw.symm⟩
              · split at hw
                · injection hw with hw
                  refine .inr (.inl ⟨_, hw.symm, ?_⟩)
                  unfold tableCtx
                  split <;> simp_all
                · cases hw
            · cases hw
    rcases hx with ⟨c, v, u, rfl⟩ | ⟨b, rfl, hf, hp, hp'⟩ | ⟨f, rfl, hl, hne⟩
    · have hs : s.withFetchWord nbits w =
          { s with tmr := min s.tmr s.tframe
                   trace := { after := 0, signal := .cmd c v u } :: s.trace } := by
        simp [State.withFetchWord, placeWord, hw]
      refine ⟨_, _, step_instr (by rw [hs]) ?_ ?_⟩
      · rw [hs]; rintro ⟨-, h⟩; simp at h
      · simpa [fetchInstr, fetchWord, decode] using h
    · have hs : s.withFetchWord nbits w =
          { awaitByte (tableCtx nbits w).fstate (tableCtx nbits w).pos s with
            rxq := b :: s.rxq, trace := { after := 0, signal := .takeByte } :: s.trace } := by
        simp [State.withFetchWord, placeWord, hw]
      refine ⟨_, _, step_instr (by rw [hs]) ?_ ?_⟩
      · rw [hs]; rintro ⟨⟨-, -, -, h⟩, -⟩; simp at h
      · have hc : decodeByte (s.withFetchWord nbits w).ctx b = decodeByte (tableCtx nbits w) b := by
          rw [hs]
          unfold decodeByte awaitByte
          cases hq : (tableCtx nbits w).fstate
          · exact absurd hq hf
          · rfl
          · have : (tableCtx nbits w).pos = 1 := hp'.2 hq
            simp only [State.ctx, this]
            rw [if_pos (.inl ⟨Nat.le_refl 1, by simp⟩), if_pos (.inl ⟨by omega, by omega⟩)]
        have hc' : decodeByte (takeUp { after := 0, signal := .takeByte } s.trace
            (s.withFetchWord nbits w)).ctx b = decodeByte (tableCtx nbits w) b := by
          rw [← hc]; congr 1; simp [State.ctx]
        have hh : (takeUp { after := 0, signal := .takeByte } s.trace
            (s.withFetchWord nbits w)).rxq.head? = some b := by
          rw [takeUp_rxq, hs]; rfl
        simp only [fetchInstr, fetchWord, hh, Option.map_some, decode, hc']
        exact h
    · have hs : s.withFetchWord nbits w =
          { awaitByte .start 0 s with
            datasize := (tableCtx nbits w).datasize
            rxq := f ++ s.rxq, trace := { after := 0, signal := .takeFrame } :: s.trace } := by
        simp [State.withFetchWord, placeWord, hw]
      refine ⟨_, _, step_instr (by rw [hs]) ?_ ?_⟩
      · rw [hs]; rintro ⟨⟨-, -, -, h⟩, -⟩; simp [hne] at h
      · simpa [fetchInstr, fetchWord, decode, hs, ← hl] using h

end Sys2Proof.Machine
end

