-- ==== Sys2Proof/Laws/PerInstr.lean ====
section
/-! SUPPORT. Statements made per instruction. Encodable: a well-formed instruction is what its own word decodes to, in
some context that its row names. -/

namespace Sys2Proof.Laws.Encodable

/-- Some context that selects the row decodes the instruction's word to the instruction. -/
def Statement (i : Instr) : Prop :=
  wellFormed i = true → ∃ c : Ctx, c.selects i ∧ decode c (encode i) = .ok i

/-- Frame position 0, nothing failed. -/
def atStart (d : DataSize) : Ctx := ⟨.start, false, 0, true, d⟩

/-- A payload position. -/
def atPayload : Ctx := ⟨.collect, false, 1, true, .d16⟩

/-- A terminator position. -/
def atTerminator : Ctx := ⟨.collect, false, 13, true, .d16⟩

/-- The engine idle. -/
def atIdle : Ctx := ⟨.idle, false, 0, true, .d16⟩

theorem frameA (p0 p1 p2 p3 p4 p5 p6 p7 p8 p9 k0 k1 t0 t1 t2 : Byte) :
    Statement (.frameA p0 p1 p2 p3 p4 p5 p6 p7 p8 p9 k0 k1 t0 t1 t2) :=
  fun _ => ⟨atStart .d16, rfl, rfl⟩

theorem frameB (p0 p1 p2 p3 p4 p5 p6 p7 p8 p9 k0 k1 t0 : Byte) :
    Statement (.frameB p0 p1 p2 p3 p4 p5 p6 p7 p8 p9 k0 k1 t0) :=
  fun _ => ⟨atStart .d14, rfl, rfl⟩

theorem stx : Statement .stx := fun _ => ⟨atStart .d16, rfl, rfl⟩

theorem hex0 : Statement .hex0 := fun _ => ⟨atPayload, by decide, by decide⟩

theorem hex1 : Statement .hex1 := fun _ => ⟨atPayload, by decide, by decide⟩

theorem hex2 : Statement .hex2 := fun _ => ⟨atPayload, by decide, by decide⟩

theorem hex3 : Statement .hex3 := fun _ => ⟨atPayload, by decide, by decide⟩

theorem hex4 : Statement .hex4 := fun _ => ⟨atPayload, by decide, by decide⟩

theorem hex5 : Statement .hex5 := fun _ => ⟨atPayload, by decide, by decide⟩

theorem hex6 : Statement .hex6 := fun _ => ⟨atPayload, by decide, by decide⟩

theorem hex7 : Statement .hex7 := fun _ => ⟨atPayload, by decide, by decide⟩

theorem hex8 : Statement .hex8 := fun _ => ⟨atPayload, by decide, by decide⟩

theorem hex9 : Statement .hex9 := fun _ => ⟨atPayload, by decide, by decide⟩

theorem hexUpA : Statement .hexUpA := fun _ => ⟨atPayload, by decide, by decide⟩

theorem hexUpB : Statement .hexUpB := fun _ => ⟨atPayload, by decide, by decide⟩

theorem hexUpC : Statement .hexUpC := fun _ => ⟨atPayload, by decide, by decide⟩

theorem hexUpD : Statement .hexUpD := fun _ => ⟨atPayload, by decide, by decide⟩

theorem hexUpE : Statement .hexUpE := fun _ => ⟨atPayload, by decide, by decide⟩

theorem hexUpF : Statement .hexUpF := fun _ => ⟨atPayload, by decide, by decide⟩

theorem hexLowA : Statement .hexLowA := fun _ => ⟨atPayload, by decide, by decide⟩

theorem hexLowB : Statement .hexLowB := fun _ => ⟨atPayload, by decide, by decide⟩

theorem hexLowC : Statement .hexLowC := fun _ => ⟨atPayload, by decide, by decide⟩

theorem hexLowD : Statement .hexLowD := fun _ => ⟨atPayload, by decide, by decide⟩

theorem hexLowE : Statement .hexLowE := fun _ => ⟨atPayload, by decide, by decide⟩

theorem hexLowF : Statement .hexLowF := fun _ => ⟨atPayload, by decide, by decide⟩

/-- A byte with no digit value has no HEX_ row. -/
theorem hexRow_eq_none_of_not_isHex : ∀ b : Byte, Machine.isHex b = false → hexRow b = none := by
  decide

theorem nonhex (b : Byte) : Statement (.nonhex b) := fun h => by
  have hb : Machine.isHex b = false := by simpa [wellFormed] using h
  refine ⟨atPayload, ⟨rfl, by decide⟩, ?_⟩
  show Except.ok (digitRow b) = _
  rw [digitRow, hexRow_eq_none_of_not_isHex b hb]

theorem any (b : Byte) : Statement (.any b) :=
  fun _ => ⟨atTerminator, ⟨rfl, .inl (by decide)⟩, rfl⟩

theorem readtag : Statement .readtag := fun _ => ⟨atIdle, trivial, rfl⟩

theorem clrbuf : Statement .clrbuf := fun _ => ⟨atIdle, trivial, rfl⟩

theorem gettag : Statement .gettag := fun _ => ⟨atIdle, trivial, rfl⟩

theorem install : Statement .install := fun _ => ⟨atIdle, trivial, rfl⟩

theorem uninstall : Statement .uninstall := fun _ => ⟨atIdle, trivial, rfl⟩

theorem cfgwr (sel val : Nat) : Statement (.cfgwr sel val) := fun _ => ⟨atIdle, trivial, rfl⟩

theorem cmdNone : Statement .cmdNone := fun _ => ⟨atIdle, trivial, rfl⟩

theorem cmdReserved : Statement .cmdReserved := fun _ => ⟨atIdle, trivial, rfl⟩

theorem rx (b : Byte) : Statement (.rx b) := fun _ => ⟨atIdle, trivial, rfl⟩

theorem tmo0 : Statement .tmo0 := fun _ => ⟨atIdle, trivial, rfl⟩

theorem sfault : Statement .sfault := fun _ => ⟨atIdle, trivial, rfl⟩

theorem tmo : Statement .tmo := fun _ => ⟨atIdle, trivial, rfl⟩

theorem rise : Statement .rise := fun _ => ⟨atIdle, trivial, rfl⟩

theorem fall : Statement .fall := fun _ => ⟨atIdle, trivial, rfl⟩

theorem grant (p : Requester) : Statement (.grant p) := fun _ => ⟨atIdle, rfl, rfl⟩

theorem start : Statement .start := fun _ => ⟨atStart .d16, ⟨rfl, rfl⟩, rfl⟩

theorem data : Statement .data := fun _ => ⟨atPayload, ⟨rfl, rfl⟩, rfl⟩

theorem fault : Statement .fault :=
  fun _ => ⟨⟨.collect, true, 1, true, .d16⟩, ⟨by decide, rfl⟩, rfl⟩

end Sys2Proof.Laws.Encodable
end

