-- ==== Sys2Proof/Tests/Slice0.lean ====
section
/-! SUPPORT. The model's own tests: the well-formedness check, words written out from the encodings of the spec, the
vectors of spec/95_test_vectors.md on single steps, and for each obligation a state and operands that meet its
hypotheses. -/

namespace Sys2Proof.Tests

open Sys2Proof Sys2Proof.Machine Sys2Proof.Safety

/-! ### Small states -/

/-- The next state, if there is one. -/
def after : Host.Outcome State Fault Refusal → Option State
  | .next s => some s
  | _ => none

/-- Sixteen bytes of FB from a list. -/
def fbOf (l : List Byte) : Vector Byte 16 := Vector.ofFn (fun i => l.getD i.val 0)

/-- A host decode waiting for its first byte, with `q` buffered. -/
def waiting (q : List Byte) : State :=
  { State.reset with fstate := .start, owner := .host, hreq := .readtag, rxq := q }

/-- A host decode that has taken the bytes `l`, with `q` buffered. -/
def collecting (l q : List Byte) : State :=
  { waiting q with fstate := .collect, cnt := l.length, fb := fbOf l }

/-- The monitor installed, the line high. -/
def installed : State := { State.reset with monEn := true, line := true, lineQ := true }

/-- A monitor decode that has taken the bytes `l`, with `q` buffered. -/
def monCollecting (l q : List Byte) : State :=
  { collecting l q with owner := .mon, hreq := .none, monEn := true, line := true, lineQ := true }

/-- The frame of S5 (spec/95_test_vectors.md): payload 0123456789, checksum 89, CR LF 0x03. -/
def frameS5 : List Byte :=
  [0x02, 0x30, 0x31, 0x32, 0x33, 0x34, 0x35, 0x36, 0x37, 0x38, 0x39, 0x38, 0x39, 0x0D, 0x0A, 0x03]

/-- The frame of tag 42 (V4 row 3). -/
def frame42 : List Byte :=
  [0x02, 0x30, 0x30, 0x30, 0x30, 0x30, 0x30, 0x30, 0x30, 0x32, 0x41, 0x32, 0x41, 0x0D, 0x0A, 0x03]

/-- RESULT (VALID, KIND, VALUE) and RXQ, as the tables of spec/95_test_vectors.md show them. -/
def shown (s : State) : Bool × ResultKind × TagValue × List Byte := (s.resValid, s.resKind, s.resValue, s.rxq)

/-! ### Well-formedness -/

/-- NONHEX with a byte that has a HEX_ row is ill-formed; 0x30 and 0x66 are the ends of the digits (41 R150). -/
theorem test_nonhex_of_digit_is_ill_formed :
    wellFormed (.nonhex 0x30#8) = false ∧ wellFormed (.nonhex 0x66#8) = false := by decide

/-- The neighbours of the digit ranges are well-formed NONHEX bytes (V1). -/
theorem test_nonhex_edges_are_well_formed :
    [0x2F#8, 0x3A#8, 0x40#8, 0x47#8, 0x60#8, 0x67#8].all (fun b => wellFormed (.nonhex b)) = true := by decide

/-! ### Decoding: words written out from 30 R90, R93, R95 and 41 R150 -/

/-- Position 0. -/
def at0 : Ctx := ⟨.start, false, 0, true, .d16⟩

/-- Position 10, the last payload character. -/
def at10 : Ctx := ⟨.collect, false, 10, true, .d16⟩

/-- Position 12 with the checksum disabled. -/
def at12 : Ctx := ⟨.collect, false, 12, false, .d16⟩

/-- Position 12 with the checksum enabled. -/
def at12on : Ctx := ⟨.collect, false, 12, true, .d16⟩

/-- FRAME_A: the 128-bit word with position 0 in bits [127:120]. -/
theorem test_decode_frameA :
    decodeTableWord 128 0x0230313233343536373839_3839_0D0A03 =
      some (.frameA 0x30 0x31 0x32 0x33 0x34 0x35 0x36 0x37 0x38 0x39 0x38 0x39 0x0D 0x0A 0x03) := by decide

/-- FRAME_B: the 112-bit word with position 0 in bits [111:104]. -/
theorem test_decode_frameB :
    decodeTableWord 112 0x0230313233343536373839_3839_03 =
      some (.frameB 0x30 0x31 0x32 0x33 0x34 0x35 0x36 0x37 0x38 0x39 0x38 0x39 0x03) := by decide

theorem test_decode_stx : decode at0 (.byte 0b00000010#8) = .ok .stx := by decide

/-- 0x82 is no start marker (V4 row 25): the START step takes it. -/
theorem test_decode_bit7_is_no_stx : decode at0 (.byte 0x82#8) = .ok .start := by decide

theorem test_decode_hex0 : decode at10 (.byte 0b00110000#8) = .ok .hex0 := by decide

theorem test_decode_hex1 : decode at10 (.byte 0b00110001#8) = .ok .hex1 := by decide

theorem test_decode_hex2 : decode at10 (.byte 0b00110010#8) = .ok .hex2 := by decide

theorem test_decode_hex3 : decode at10 (.byte 0b00110011#8) = .ok .hex3 := by decide

theorem test_decode_hex4 : decode at10 (.byte 0b00110100#8) = .ok .hex4 := by decide

theorem test_decode_hex5 : decode at10 (.byte 0b00110101#8) = .ok .hex5 := by decide

theorem test_decode_hex6 : decode at10 (.byte 0b00110110#8) = .ok .hex6 := by decide

theorem test_decode_hex7 : decode at10 (.byte 0b00110111#8) = .ok .hex7 := by decide

theorem test_decode_hex8 : decode at10 (.byte 0b00111000#8) = .ok .hex8 := by decide

theorem test_decode_hex9 : decode at10 (.byte 0b00111001#8) = .ok .hex9 := by decide

theorem test_decode_hexUpA : decode at10 (.byte 0b01000001#8) = .ok .hexUpA := by decide

theorem test_decode_hexUpB : decode at10 (.byte 0b01000010#8) = .ok .hexUpB := by decide

theorem test_decode_hexUpC : decode at10 (.byte 0b01000011#8) = .ok .hexUpC := by decide

theorem test_decode_hexUpD : decode at10 (.byte 0b01000100#8) = .ok .hexUpD := by decide

theorem test_decode_hexUpE : decode at10 (.byte 0b01000101#8) = .ok .hexUpE := by decide

theorem test_decode_hexUpF : decode at10 (.byte 0b01000110#8) = .ok .hexUpF := by decide

theorem test_decode_hexLowA : decode at10 (.byte 0b01100001#8) = .ok .hexLowA := by decide

theorem test_decode_hexLowB : decode at10 (.byte 0b01100010#8) = .ok .hexLowB := by decide

theorem test_decode_hexLowC : decode at10 (.byte 0b01100011#8) = .ok .hexLowC := by decide

theorem test_decode_hexLowD : decode at10 (.byte 0b01100100#8) = .ok .hexLowD := by decide

theorem test_decode_hexLowE : decode at10 (.byte 0b01100101#8) = .ok .hexLowE := by decide

theorem test_decode_hexLowF : decode at10 (.byte 0b01100110#8) = .ok .hexLowF := by decide

theorem test_decode_nonhex : decode at12on (.byte 0b01000111#8) = .ok (.nonhex 0x47#8) := by decide

theorem test_decode_any : decode at12 (.byte 0b01000111#8) = .ok (.any 0x47#8) := by decide

theorem test_decode_readtag : decode at0 (.cmd 0b001#3 0 0) = .ok .readtag := by decide

theorem test_decode_clrbuf : decode at0 (.cmd 0b010#3 0 0) = .ok .clrbuf := by decide

theorem test_decode_gettag : decode at0 (.cmd 0b011#3 0 0) = .ok .gettag := by decide

theorem test_decode_install : decode at0 (.cmd 0b100#3 0 0) = .ok .install := by decide

theorem test_decode_uninstall : decode at0 (.cmd 0b101#3 0 0) = .ok .uninstall := by decide

theorem test_decode_cfgwr : decode at0 (.cmd 0b110#3 2 25000) = .ok (.cfgwr 2 25000) := by decide

theorem test_decode_cmdNone : decode at0 (.cmd 0b000#3 0 0) = .ok .cmdNone := by decide

theorem test_decode_cmdReserved : decode at0 (.cmd 0b111#3 0 0) = .ok .cmdReserved := by decide

theorem test_decode_rx : decode at0 (.byteStrobe 0x41#8) = .ok (.rx 0x41#8) := by decide

theorem test_decode_strobes :
    decode at0 .tmo0Strobe = .ok .tmo0 ∧ decode at0 .sfaultStrobe = .ok .sfault ∧
      decode at0 .tmoStrobe = .ok .tmo := by decide

theorem test_decode_levels : decode at0 (.level true) = .ok .rise ∧ decode at0 (.level false) = .ok .fall := by
  decide

/-- Engine steps are selected by state (30 R95); a channel fault goes first (60 R235 (b)). -/
theorem test_decode_turns :
    decode ⟨.idle, true, 0, true, .d16⟩ (.turn .mon) = .ok (.grant .mon) ∧
    decode at0 (.turn .mon) = .ok .start ∧ decode at10 (.turn .mon) = .ok .data ∧
    decode ⟨.collect, true, 3, true, .d16⟩ (.turn .mon) = .ok .fault ∧
    decode ⟨.start, true, 0, true, .d16⟩ (.turn .mon) = .ok .fault := by decide

/-- A frame without its start marker, of the wrong length, or a byte with no operation in flight selects nothing. -/
theorem test_decode_rejects :
    decode at0 (.frame (0x41#8 :: frameS5.tail)) = .error .notStartMarker ∧
    decode at0 (.frame (frameS5.take 15)) = .error .wrongLength ∧
    decode ⟨.idle, false, 0, true, .d16⟩ (.byte 0x30#8) = .error .noOperation := by decide

/-- The table words: bytes, a command of three bits, and a command in a whole byte (log 11). -/
theorem test_table_words :
    decodeTableWord 8 0x02 = some .stx ∧ decodeTableWord 8 0x66 = some .hexLowF ∧
    decodeTableWord 8 0xFF = some (.nonhex 0xFF) ∧ decodeTableWord 3 2 = some .clrbuf ∧
    decodeTableWord 8 6 = some (.cfgwr 0 0) ∧ decodeTableWord 16 0 = none := by decide

/-- A command placed for fetching runs from reset: READTAG fills the request slot. -/
theorem test_first_instruction_after_reset :
    (after (step (State.reset.withFetchWord 3 1))).map (·.hreq) = some .readtag := by decide

/-- A byte placed for fetching is taken: after 0x39 at position 1, CNT is 2 and FB[1] the byte. -/
theorem test_byte_row_after_reset :
    (after (step (State.reset.withFetchWord 8 0x39))).map (fun s => (s.cnt, s.fb[1], s.rxq)) =
      some (2, 0x39#8, []) := by decide

/-! ### Vectors of spec/95_test_vectors.md -/

/-- V3. -/
theorem test_checksums :
    ckCalc frameS5 = some 0x89#8 ∧ ckCalc frame42 = some 0x2A#8 ∧
    ckCalc (0x02 :: [0x44, 0x45, 0x41, 0x44, 0x42, 0x45, 0x45, 0x46, 0x30, 0x31]) = some 0x23#8 ∧
    ckCalc (0x02 :: [0x41, 0x42, 0x43, 0x44, 0x45, 0x46, 0x30, 0x31, 0x32, 0x33]) = some 0xAB#8 := by decide

/-- V2: the first digit is most significant; a blank, a sign and 0x02 are no digits. -/
theorem test_payloads :
    payload frameS5 = some 0x0123456789#40 ∧
    payload (0x02 :: [0x31, 0x30, 0x30, 0x30, 0x30, 0x30, 0x30, 0x30, 0x30, 0x30]) = some 0x1000000000#40 ∧
    payload (0x02 :: [0x64, 0x65, 0x61, 0x64, 0x62, 0x65, 0x65, 0x66, 0x30, 0x31]) = some 0xDEADBEEF01#40 ∧
    payload (0x02 :: [0x20, 0x31, 0x32, 0x33, 0x34, 0x35, 0x36, 0x37, 0x38, 0x39]) = none ∧
    payload (0x02 :: [0x2B, 0x31, 0x32, 0x33, 0x34, 0x35, 0x36, 0x37, 0x38, 0x39]) = none ∧
    payload (0x02 :: [0x30, 0x31, 0x02, 0x33, 0x34, 0x35, 0x36, 0x37, 0x38, 0x39]) = none := by decide

/-- V4 rows 1 and 28: a valid frame, and two bytes behind it that stay. -/
theorem test_frameA_ok :
    (after (exec (.frameA 0x30 0x31 0x32 0x33 0x34 0x35 0x36 0x37 0x38 0x39 0x38 0x39 0x0D 0x0A 0x03)
      (waiting (frameS5 ++ [0x02, 0x30])))).map shown = some (true, .ok, 0x0123456789#40, [0x02#8, 0x30#8]) := by
  decide

/-- V4 row 13: checksum 22 for 23, and the byte behind the frame is flushed. -/
theorem test_frameA_checksum_mismatch :
    (after (exec (.frameA 0x44 0x45 0x41 0x44 0x42 0x45 0x45 0x46 0x30 0x31 0x32 0x32 0x0D 0x0A 0x03)
      (waiting [0x02, 0x44, 0x45, 0x41, 0x44, 0x42, 0x45, 0x45, 0x46, 0x30, 0x31, 0x32, 0x32, 0x0D, 0x0A, 0x03,
        0x02]))).map shown = some (true, .err .checksumMismatch, 0#40, []) := by decide

/-- V4 row 8: mixed case, checksum Ab, DATASIZE 14. -/
theorem test_frameB_mixed_case :
    (after (exec (.frameB 0x61 0x62 0x63 0x64 0x65 0x66 0x30 0x31 0x32 0x33 0x41 0x62 0x03)
      { waiting [0x02, 0x61, 0x62, 0x63, 0x64, 0x65, 0x66, 0x30, 0x31, 0x32, 0x33, 0x41, 0x62, 0x03] with
        datasize := .d14 })).map shown = some (true, .ok, 0xABCDEF0123#40, []) := by decide

/-- V4 row 22: a terminator 0x0D, not 0x03. -/
theorem test_frameB_other_terminator :
    (after (exec (.frameB 0x30 0x31 0x32 0x33 0x34 0x35 0x36 0x37 0x38 0x39 0x38 0x39 0x0D)
      { waiting [0x02, 0x30, 0x31, 0x32, 0x33, 0x34, 0x35, 0x36, 0x37, 0x38, 0x39, 0x38, 0x39, 0x0D] with
        datasize := .d14 })).map shown = some (true, .ok, 0x0123456789#40, []) := by decide

/-- V4 rows 15 to 19: a checksum field ZZ is a mismatch with CKEN = 1 and ignored with CKEN = 0; G in the payload is
malformed either way. -/
theorem test_check_order :
    checkFrame [0x02, 0x44, 0x45, 0x41, 0x44, 0x42, 0x45, 0x45, 0x46, 0x30, 0x31, 0x5A, 0x5A] true =
      .err .checksumMismatch ∧
    checkFrame [0x02, 0x44, 0x45, 0x41, 0x44, 0x42, 0x45, 0x45, 0x46, 0x30, 0x31, 0x5A, 0x5A] false =
      .ok 0xDEADBEEF01#40 ∧
    checkFrame [0x02, 0x30, 0x31, 0x32, 0x33, 0x47, 0x35, 0x36, 0x37, 0x38, 0x39, 0x30, 0x30] true =
      .err .malformedPayload ∧
    checkFrame [0x02, 0x30, 0x31, 0x32, 0x33, 0x47, 0x35, 0x36, 0x37, 0x38, 0x39, 0x30, 0x30] false =
      .err .malformedPayload := by decide

/-- V4 row 24: the marker behind a wrong byte is discarded too. -/
theorem test_start_wrong_byte :
    (after (exec .start (waiting [0x03, 0x02, 0x30, 0x31]))).map shown =
      some (true, .err .badStartMarker, 0#40, []) := by decide

/-- P1: the start marker enters F_COLLECT with CNT = 1 and TMR = 0. -/
theorem test_stx_opens_frame :
    (after (exec .stx { waiting [0x02, 0x30] with tmr := 7 })).map (fun s => (s.fstate, s.cnt, s.tmr, s.rxq)) =
      some (.collect, 1, 0, [0x30#8]) := by decide

/-- P1: a payload digit is stored at its position. -/
theorem test_hex_stores :
    (after (exec .hex0 (collecting [0x02] [0x30, 0x31]))).map (fun s => (s.cnt, s.fb[1], s.rxq)) =
      some (2, 0x30#8, [0x31#8]) := by decide

/-- 40 R124 (a): a malformed byte is stored like any other. -/
theorem test_nonhex_stores :
    (after (exec (.nonhex 0x02) (collecting [0x02, 0x30] [0x02]))).map (fun s => (s.fstate, s.cnt, s.fb[2])) =
      some (.collect, 3, 0x02#8) := by decide

/-- P1: the last byte completes the frame. -/
theorem test_any_completes :
    (after (exec (.any 0x03) (collecting (frameS5.take 15) [0x03]))).map shown =
      some (true, .ok, 0x0123456789#40, []) := by decide

/-- P3: with DATASIZE = 14 the byte 0x0D completes the frame, and the rest stays. -/
theorem test_data_short_frame :
    (after (exec .data { collecting (frameS5.take 13) [0x0D, 0x0A, 0x03] with datasize := .d14 })).map shown =
      some (true, .ok, 0x0123456789#40, [0x0A#8, 0x03#8]) := by decide

/-- S7: CNT = 9 and the frame time has run out. -/
theorem test_tmo_incomplete :
    (after (exec .tmo { collecting (frameS5.take 9) [] with tmr := 25000 })).map shown =
      some (true, .err .incompleteFrame, 0#40, []) := by decide

/-- V4 row 30. -/
theorem test_tmo0_zero :
    (after (exec .tmo0 { waiting [] with chNonblock := true })).map (fun s => (shown s, s.outs)) =
      some ((true, .ok, 0#40, []), [.done (.ok 0)]) := by decide

/-- V6: the two buffered bytes are neither popped nor flushed. -/
theorem test_fault_keeps_queue :
    (after (exec .fault { collecting (frameS5.take 5) [0x30, 0x30] with chFault := true })).map shown =
      some (true, .err .streamFault, 0#40, [0x30#8, 0x30#8]) := by decide

/-- V7: a second READTAG is refused; CFGWR is ignored in flight; DATASIZE 15 and TFRAME 0 are refused. -/
theorem test_refusals :
    (after (exec .readtag (waiting []))) = some (waiting []) ∧
    (after (exec (.cfgwr 0 14) (waiting []))) = some (waiting []) ∧
    (after (exec (.cfgwr 0 15) State.reset)) = some State.reset ∧
    (after (exec (.cfgwr 2 0) State.reset)) = some State.reset ∧
    (after (exec (.cfgwr 0 14) State.reset)).map (·.datasize) = some .d14 := by decide

/-- V8: INSTALL with the line high loads LINE_Q and queues nothing; without a line it changes nothing. -/
theorem test_install :
    (after (exec .install { State.reset with line := true })).map (fun s => (s.monEn, s.lineQ, s.evq)) =
      some (true, true, []) ∧
    (after (exec .install { State.reset with linePresent := false })).map (·.monEn) = some false := by decide

/-- V8: UNINSTALL drops the waiting edge and leaves TAG. -/
theorem test_uninstall :
    (after (exec .uninstall { installed with evq := [.fall], tag := 0x2A })).map (fun s => (s.monEn, s.evq, s.tag)) =
      some (false, [], 0x2A#40) := by decide

/-- V8: edges are queued only while installed. -/
theorem test_line :
    (after (exec .fall { installed with evq := [.rise] })).map (fun s => (s.evq, s.lineQ)) =
      some ([.rise, .fall], false) ∧
    (after (exec .rise State.reset)).map (fun s => (s.evq, s.line, s.lineQ)) = some ([], true, false) := by decide

/-- P2: the falling edge stores 0, flushes and reports. -/
theorem test_grant_fall :
    (after (exec (.grant .host) { installed with evq := [.fall], tag := 0x2A, rxq := frame42, pstate := .present })).map
      (fun s => (s.tag, s.rxq, s.pstate, s.outs)) = some (0#40, [], .idle, [.tagUpd 0]) := by decide

/-- P6: with both waiting either order is possible. -/
theorem test_grant_both_orders :
    (after (exec (.grant .host) { installed with evq := [.rise], hreq := .readtag })).map (fun s => (s.owner, s.evq)) =
      some (.host, [.rise]) ∧
    (after (exec (.grant .mon) { installed with evq := [.rise], hreq := .readtag })).map (fun s => (s.owner, s.evq)) =
      some (.mon, []) := by decide

/-- P5: the checksum error of a monitor decode stores 0, moves to Present, and RESULT is not written. -/
theorem test_monitor_error_swallowed :
    (after (exec .data (monCollecting
      [0x02, 0x30, 0x30, 0x30, 0x30, 0x30, 0x30, 0x30, 0x30, 0x32, 0x41, 0x32, 0x42, 0x0D, 0x0A] [0x03, 0x02, 0x30]))).map
      (fun s => (s.tag, s.pstate, s.resValid, s.rxq, s.outs)) =
      some (0#40, .present, false, [], [.tagUpd 0]) := by decide

/-- S8: tag 42 reaches TAG. -/
theorem test_monitor_tag_42 :
    (after (exec .data (monCollecting (frame42.take 15) [0x03]))).map (fun s => (s.tag, s.pstate, s.outs)) =
      some (42#40, .present, [.tagUpd 42]) := by decide

/-- 42 R171 gives the bytes of S5 for 0x0123456789. -/
theorem test_frameOf : frameOf .d16 true 0x0123456789#40 = frameS5 := by decide

/-! ### Witnesses: states and operands that meet the hypotheses of each obligation -/

/-- A schedule item of no time. -/
def now (sg : Signal) : Item := { after := 0, signal := sg }

/-- TmoReady with 10 us of the frame time left. -/
def nearTimeout : State :=
  { collecting (frameS5.take 9) [] with tmr := 24990, trace := [{ after := 11, signal := .rx 0x38 }] }

theorem witness_StepRunsDecodedInstruction :
    let it : Item := { after := 10, signal := .rx 0x38 }
    let s : State := { nearTimeout with trace := [it] }
    let short : State := { waiting [0x02] with trace := [now .takeFrame] }
    (s.trace = it :: [] ∧ ¬ TimerDue s it.after ∧ fetchWord it.signal (takeUp it [] s) = some (.byteStrobe 0x38) ∧
      decode (takeUp it [] s).ctx (.byteStrobe 0x38) = .ok (.rx 0x38)) ∧
    (short.trace = now .takeFrame :: [] ∧ ¬ TimerDue short 0 ∧
      fetchWord .takeFrame (takeUp (now .takeFrame) [] short) = some (.frame [0x02]) ∧
      (decode short.ctx (.frame [0x02])).toOption = none) ∧
    ({ waiting [] with trace := [now .takeByte] } : State).rxq = [] ∧
    (waiting [0x02]).datasize = .d16 ∧ ({ waiting [0x02] with datasize := .d14 } : State).datasize = .d14 := by
  decide

theorem witness_OverdueTimerGoesFirst :
    nearTimeout.trace = [{ after := 11, signal := .rx 0x38 }] ∧ TimerDue nearTimeout 11 ∧
    TimerDue { nearTimeout with tmr := 25001 } 0 := by decide

theorem witness_RunTakesEnabledSteps :
    ¬ TimerDue (waiting [0x02]) 0 ∧ EngineEnabled (waiting [0x02]) ∧
    ¬ TimerDue (waiting []) 0 ∧ ¬ EngineEnabled (waiting []) ∧
    { waiting [] with trace := [now (.run .host)] }.trace = { after := 0, signal := .run .host } :: [] := by decide

theorem witness_RegisterReadsAndReset :
    ¬ TimerDue { State.reset with trace := [now (.readReg .status)] } 0 ∧
    { State.reset with trace := [now (.reset Config.defaultLaunch)] }.trace =
      { after := 0, signal := .reset Config.defaultLaunch } :: [] := by decide

theorem witness_DecodeEncodeAgree :
    (wellFormed (.nonhex 0xFF) = true ∧ at10.selects (.nonhex 0xFF)) ∧ at10.selects .hexLowF ∧
    at12on.selects .hex0 ∧ at12.selects (.any 0x30) ∧ at0.selects .stx ∧
    at0.selects (.frameA 0 0 0 0 0 0 0 0 0 0 0 0 0 0 0) := by
  refine ⟨⟨by decide, rfl, ?_⟩, ⟨rfl, ?_⟩, ⟨rfl, ?_⟩, ⟨rfl, ?_⟩, rfl, rfl⟩ <;> decide

/-- Positions 10, 12 and 13, where the classes change. -/
theorem witness_ByteClassesByPosition :
    at0.fstate = .start ∧ (at10.fstate = .collect ∧ at10.wantsDigit ∧ isHex 0x66#8 = true ∧ isHex 0x67#8 = false) ∧
    (at12on.wantsDigit ∧ at12.fstate = .collect ∧ 1 ≤ at12.pos ∧ ¬ at12.wantsDigit) ∧
    ¬ (⟨.collect, false, 13, true, .d16⟩ : Ctx).wantsDigit := by decide

/-- The ends of the three ranges and their neighbours (V1). -/
theorem witness_HexDigitValues :
    hexval 0x30#8 = some 0 ∧ hexval 0x39#8 = some 9 ∧ hexval 0x41#8 = some 10 ∧ hexval 0x46#8 = some 15 ∧
    hexval 0x61#8 = some 10 ∧ hexval 0x66#8 = some 15 ∧
    [0x2F#8, 0x3A#8, 0x40#8, 0x47#8, 0x60#8, 0x67#8].all (fun b => hexval b = none) = true := by decide

theorem witness_PayloadIsBase16 :
    ∀ i : Fin 10, ∃ c, frameS5[1 + i.val]? = some c ∧ hexval c = some (BitVec.ofNat 4 i.val) := by
  intro i
  have h : ∀ i : Fin 10, (frameS5[1 + i.val]?.bind hexval) = some (BitVec.ofNat 4 i.val) := by decide
  obtain ⟨c, hc, hv⟩ := Option.bind_eq_some_iff.1 (h i)
  exact ⟨c, hc, hv⟩

theorem witness_ChecksumFieldIsBase16 :
    frame42[11]? = some 0x32#8 ∧ frame42[12]? = some 0x41#8 ∧ hexval 0x32#8 = some 2 ∧ hexval 0x41#8 = some 10 := by
  decide

theorem witness_ChunksAreValueBytes :
    11 ≤ frame42.length ∧ payload frame42 = some 42#40 ∧
    (frame42[1 + 2 * 4]? = some 0x32#8 ∧ frame42[2 + 2 * 4]? = some 0x41#8 ∧ hexval 0x32#8 = some 2 ∧
      hexval 0x41#8 = some 10) := by decide

/-- Chunk 4 of the frame of 42 against a payload ending in 2B. -/
theorem witness_OneChunkErrorIsDetected :
    11 ≤ frame42.length ∧ 11 ≤ (frame42.set 10 0x42).length ∧ payloadOk frame42 = true ∧
    payloadOk (frame42.set 10 0x42) = true ∧ chunk frame42 4 ≠ chunk (frame42.set 10 0x42) 4 ∧
    ∀ k, k < 5 → k ≠ 4 → chunk frame42 k = chunk (frame42.set 10 0x42) k := by decide

/-- The frame of 42 with 2A and with 2a. -/
theorem witness_LetterCaseDoesNotMatter :
    frame42.map hexval = ((frame42.set 10 0x61).set 12 0x61).map hexval ∧
      frame42 ≠ (frame42.set 10 0x61).set 12 0x61 := by decide

theorem witness_RequestsArePostedOrRefused :
    State.reset.hreq = .none ∧ (waiting []).hreq ≠ .none := by decide

theorem witness_InstallLoadsDetector :
    (State.reset.linePresent = true ∧ State.reset.monEn = false) ∧ installed.monEn = true ∧
    { State.reset with linePresent := false }.linePresent = false := by decide

/-- Idle, and in flight; the values 14, 15, 16, 0, 1, 2 and the selector 3 are the cases' boundaries. -/
theorem witness_CfgwrWritesLegalFields :
    State.reset.fstate = .idle ∧ (waiting []).fstate ≠ .idle ∧ (15 ≠ 14 ∧ 15 ≠ 16) ∧ (2 ≠ 0 ∧ 2 ≠ 1) ∧ 3 ≤ 3 := by
  decide

theorem witness_ReservedCommandsDoNothing : 3 ≤ 3 ∧ 3 ≤ 7 := by decide

theorem witness_ChannelFailureIsSticky : { State.reset with chFault := true }.chFault = true := by decide

/-- A non-blocking channel waiting for its first byte. -/
def polling : State := { waiting [] with chNonblock := true }

theorem witness_ZeroByteTimeoutGivesZero :
    (polling.chNonblock = true ∧ polling.fstate = .start ∧ polling.chFault = false ∧ polling.rxq = []) ∧
    (waiting []).chNonblock = false ∧ (waiting [0x02]).rxq ≠ [] ∧ State.reset.fstate ≠ .start := by decide

/-- TMR = CFG.TFRAME is enough, one less is not. -/
theorem witness_FrameTimeoutGivesIncompleteFrame :
    (({ nearTimeout with tmr := 25000 } : State).fstate = .collect ∧
      ({ nearTimeout with tmr := 25000 } : State).chFault = false ∧
      ({ nearTimeout with tmr := 25000 } : State).cnt < frameLen .d16 ∧
      ({ nearTimeout with tmr := 25000 } : State).rxq = [] ∧
      ({ nearTimeout with tmr := 25000 } : State).tframe ≤ 25000) ∧
    ({ nearTimeout with tmr := 24999 } : State).tmr < nearTimeout.tframe ∧
    (collecting (frameS5.take 9) [0x38]).rxq ≠ [] := by decide

theorem witness_LevelChangesQueueEdges :
    (State.reset.line = false ∧ State.reset.monEn = false) ∧
    (installed.line = true ∧ installed.monEn = true ∧ installed.lineQ = true) ∧
    (({ installed with line := false, lineQ := false } : State).line = false ∧
      ({ installed with line := false, lineQ := false } : State).lineQ = false) ∧
    (({ installed with line := false } : State).lineQ = true ∧ ({ installed with lineQ := false } : State).line = true) ∧
    ({ State.reset with line := true } : State).monEn = false := by decide

/-- Both requesters waiting. -/
def bothWait : State := { installed with evq := [.rise], hreq := .readtag }

theorem witness_GateGrantsOneRequest :
    (waiting []).fstate ≠ .idle ∧ (State.reset.hreq = .none ∧ State.reset.evq = []) ∧
    (bothWait.fstate = .idle ∧ bothWait.hreq ≠ .none ∧ bothWait.evq ≠ []) := by decide

theorem witness_HostReadIsGranted :
    (bothWait.fstate = .idle ∧ bothWait.hreq = .readtag ∧ (bothWait.evq = [] ∨ Requester.host = .host)) ∧
    bothWait.chFault = false ∧
    ({ bothWait with chFault := true, evq := [] } : State).chFault = true := by decide

/-- A CLRBUF waiting over two left-over bytes (P1). -/
def clearing : State := { State.reset with hreq := .clrbuf, rxq := [0x0A, 0x03] }

theorem witness_HostClearIsGranted :
    clearing.fstate = .idle ∧ clearing.hreq = .clrbuf ∧ (clearing.evq = [] ∨ Requester.mon = .host) := by decide

theorem witness_MonitorEdgeIsGranted :
    (bothWait.fstate = .idle ∧ bothWait.evq = .rise :: [] ∧ (bothWait.hreq = .none ∨ Requester.mon = .mon)) ∧
    bothWait.chFault = false ∧ ({ bothWait with chFault := true } : State).chFault = true ∧
    ({ installed with evq := [.fall] } : State).evq = .fall :: [] := by decide

theorem witness_StartTakesFirstByte :
    ((waiting [0x02, 0x30]).fstate = .start ∧ (waiting [0x02, 0x30]).chFault = false ∧
      (waiting [0x02, 0x30]).rxq = 0x02#8 :: [0x30#8]) ∧
    ((waiting [0x82]).rxq = 0x82#8 :: [] ∧ 0x82#8 ≠ 0x02#8) := by decide

/-- Positions 1, 12 (checksum on and off) and 14. -/
theorem witness_DataStoresByte :
    ((collecting [0x02] [0x30]).fstate = .collect ∧ (collecting [0x02] [0x30]).chFault = false ∧
      (collecting [0x02] [0x30]).rxq = 0x30#8 :: [] ∧
      (collecting [0x02] [0x30]).cnt + 1 < frameLen (collecting [0x02] [0x30]).datasize ∧
      (collecting [0x02] [0x30]).ctx.wantsDigit ∧ ((Instr.hex0, 0x30#8) ∈ hexRows)) ∧
    (isHex 0x47#8 = false ∧ (collecting (frameS5.take 12) [0x47]).ctx.wantsDigit) ∧
    ({ collecting (frameS5.take 12) [0x39] with cken := false } : State).ctx.ignoresByte ∧
    ((collecting (frameS5.take 14) [0x0A]).ctx.ignoresByte ∧ (collecting (frameS5.take 14) [0x0A]).cnt + 1 < 16) := by
  decide

/-- The last byte of a good frame, of one with a bad payload, of one with a bad checksum field, of one whose checksum
differs, and of one with the checksum disabled. -/
theorem witness_LastByteValidates :
    ((collecting (frameS5.take 15) [0x03]).fstate = .collect ∧ (collecting (frameS5.take 15) [0x03]).chFault = false ∧
      (collecting (frameS5.take 15) [0x03]).rxq = 0x03#8 :: [] ∧
      (collecting (frameS5.take 15) [0x03]).cnt + 1 = frameLen (collecting (frameS5.take 15) [0x03]).datasize) ∧
    (payloadOk frameS5 = true ∧ ckFieldOk frameS5 = true ∧ ckCalc frameS5 = ckRx frameS5) ∧
    payloadOk (frameS5.set 10 0x47) = false ∧
    (payloadOk (frameS5.set 12 0x47) = true ∧ ckFieldOk (frameS5.set 12 0x47) = false) ∧
    (ckFieldOk (frameS5.set 12 0x38) = true ∧ ckCalc (frameS5.set 12 0x38) ≠ ckRx (frameS5.set 12 0x38)) ∧
    (State.reset.cken = true ∧ ({ collecting (frameS5.take 15) [0x03] with cken := false } : State).cken = false) := by
  decide

theorem witness_ChannelFaultEndsOperation :
    ({ waiting [0x02] with chFault := true } : State).chFault = true ∧
    ({ waiting [0x02] with chFault := true } : State).fstate ≠ .idle := by decide

theorem witness_DisabledStepsChangeNothing :
    ¬ StartEnabled (waiting []) ∧ ¬ DataEnabled (collecting frameS5 [0x30]) ∧ ¬ FaultEnabled (waiting []) ∧
    ¬ GrantEnabled State.reset ∧ (installed.line = true ∧ State.reset.line = false) ∧ (waiting [0x41]).rxq.head? ≠ some 0x02#8 ∧
    ((Instr.hex0, 0x30#8) ∈ hexRows ∧ (collecting [0x02] [0x31]).rxq.head? ≠ some 0x30#8) ∧
    ¬ (collecting [0x02] [0x31]).ctx.ignoresByte ∧ (waiting []).datasize ≠ .d14 ∧
    (waiting frame42).rxq.take 16 ≠ frameS5 := by decide

theorem witness_FrameAMeetsReference :
    (waiting (frameS5 ++ [0x02])).fstate = .start ∧ (waiting (frameS5 ++ [0x02])).chFault = false ∧
    (waiting (frameS5 ++ [0x02])).datasize = .d16 ∧ (waiting (frameS5 ++ [0x02])).rxq = frameS5 ++ [0x02] := by decide

theorem witness_FrameBMeetsReference :
    ({ waiting (frameS5.take 13 ++ [0x03]) with datasize := .d14 } : State).fstate = .start ∧
    ({ waiting (frameS5.take 13 ++ [0x03]) with datasize := .d14 } : State).chFault = false ∧
    ({ waiting (frameS5.take 13 ++ [0x03]) with datasize := .d14 } : State).datasize = .d14 ∧
    ({ waiting (frameS5.take 13 ++ [0x03]) with datasize := .d14 } : State).rxq =
      [0x02, 0x30, 0x31, 0x32, 0x33, 0x34, 0x35, 0x36, 0x37, 0x38, 0x39, 0x38, 0x39, 0x03] ++ [] := by decide

theorem witness_FrameItemEqualsEngineTurns :
    (waiting frame42).fstate = .start ∧ (waiting frame42).chFault = false ∧
    (waiting frame42).rxq = 0x02#8 :: frame42.tail ++ [] ∧
    frame42.tail.length + 1 = frameLen (waiting frame42).datasize := by decide

theorem witness_RoundTripOfEveryTagValue :
    (waiting (frameOf .d16 false 0xDEADBEEF01 ++ [0x02])).fstate = .start ∧
    (waiting (frameOf .d16 false 0xDEADBEEF01 ++ [0x02])).chFault = false ∧
    (waiting (frameOf .d16 false 0xDEADBEEF01 ++ [0x02])).rxq =
      frameOf (waiting (frameOf .d16 false 0xDEADBEEF01 ++ [0x02])).datasize false 0xDEADBEEF01 ++ [0x02] := by decide

/-- A monitor decode about to complete with 42, an edge waiting behind it, that meets the invariant. -/
def monAboutToComplete : State :=
  { monCollecting (frame42.take 15) [0x03] with line := false, lineQ := false, evq := [.fall] }

theorem monAboutToComplete_inv : BlockInv monAboutToComplete where
  positive := by decide
  gate := by decide
  slot := by decide
  atStart := by decide
  inFrame := by decide
  count := by decide
  marker := by decide
  detector := by decide
  detached := by decide
  edges := rfl
  noLine := by decide
  errorValue := by decide
  unset := by decide

theorem witness_InvariantKeptByEveryStep :
    BlockInv { monAboutToComplete with trace := [now .takeByte] } ∧
    ∃ t, step { monAboutToComplete with trace := [now .takeByte] } = .next t := by
  obtain ⟨a, b, c, d, e, f, g, h, i, j, k, l, m⟩ := monAboutToComplete_inv
  exact ⟨⟨a, b, c, d, e, f, g, h, i, j, k, l, m⟩, _, rfl⟩

theorem witness_OnlyTheMonitorWritesTag :
    (∃ t, exec .data monAboutToComplete = .next t ∧ t.tag ≠ monAboutToComplete.tag) ∧
    (∃ t, exec (.grant .mon) { installed with evq := [.fall], tag := 0x2A } = .next t ∧ t.tag ≠ 0x2A) :=
  ⟨⟨_, rfl, by decide⟩, ⟨_, rfl, by decide⟩⟩

theorem witness_OnlyHostCompletionsWriteResult :
    (∃ t, exec .data (collecting (frame42.take 15) [0x03]) = .next t ∧ t.resValue ≠ State.reset.resValue) ∧
    (∃ t, exec (.grant .host) { bothWait with chFault := true } = .next t ∧ t.resKind ≠ bothWait.resKind) :=
  ⟨⟨_, rfl, by decide⟩, ⟨_, rfl, by decide⟩⟩

theorem witness_OnlyResetClearsChannelFault :
    ∃ t, step { State.reset with chFault := true, trace := [now (.reset Config.defaultLaunch)] } = .next t ∧
      t.chFault = false := ⟨_, rfl, by decide⟩

theorem witness_ConfigurationConstantInFlight :
    (waiting []).fstate ≠ .idle ∧ ∃ t, exec (.cfgwr 0 14) (waiting []) = .next t := ⟨by decide, _, rfl⟩

theorem witness_SingleReaderOfTheChannel :
    (collecting [0x02] [0x30]).fstate ≠ .idle ∧ ∃ t, exec (.rx 0x31) (collecting [0x02] [0x30]) = .next t ∧
      t.rxq = [0x30] ++ [0x31] := ⟨by decide, _, rfl, rfl⟩

/-- A byte taken, a wrong first byte, a whole frame, a timeout, the two flushing grants. -/
theorem witness_ReceiveQueueKeepsOrder :
    (∃ t, exec .data (collecting [0x02] [0x30, 0x31]) = .next t ∧ t.rxq = [0x31]) ∧
    (∃ t, exec .start (waiting [0x41, 0x30]) = .next t ∧ FramingFlush (waiting [0x41, 0x30]) t) ∧
    (∃ t, exec (.frameA 0x30 0x30 0x30 0x30 0x30 0x30 0x30 0x30 0x32 0x41 0x32 0x41 0x0D 0x0A 0x03)
      (waiting (frame42 ++ [0x02])) = .next t ∧ t.rxq = [0x02]) ∧
    (∃ t, exec .tmo { nearTimeout with tmr := 25000 } = .next t ∧ t ≠ { nearTimeout with tmr := 25000 }) ∧
    (∃ t, exec (.grant .host) clearing = .next t ∧ t.rxq ≠ clearing.rxq) ∧
    (∃ t, exec (.grant .mon) { installed with evq := [.fall], rxq := [0x30] } = .next t ∧ t.rxq = []) := by
  refine ⟨⟨_, rfl, by decide⟩, ⟨_, rfl, by decide, by decide, by decide, .badStartMarker, by decide, ?_, ?_⟩,
    ⟨_, rfl, by decide⟩, ⟨_, rfl, by decide⟩, ⟨_, rfl, by decide⟩, ⟨_, rfl, by decide⟩⟩
  · exact fun _ => by decide
  · exact fun h => absurd h (by decide)

theorem witness_EdgesAreHandledInOrder :
    (∃ t, exec .fall { installed with evq := [.rise] } = .next t ∧ t.evq ≠ [.rise]) ∧
    (∃ t, exec (.grant .mon) bothWait = .next t ∧ t.evq ≠ bothWait.evq) ∧
    (∃ t, exec .uninstall bothWait = .next t ∧ t.evq ≠ bothWait.evq) :=
  ⟨⟨_, rfl, by decide⟩, ⟨_, rfl, by decide⟩, ⟨_, rfl, by decide⟩⟩

/-- A frame that passes, a malformed one, and a wrong start marker. -/
theorem witness_MonitorSwallowsErrors :
    monAboutToComplete.fstate ≠ .idle ∧ monAboutToComplete.owner = .mon ∧
    (∃ t, exec .data monAboutToComplete = .next t ∧ t.fstate = .idle ∧
      payloadOk t.fb.toList = true ∧ ckFieldOk t.fb.toList = true ∧ ckCalc t.fb.toList = ckRx t.fb.toList) ∧
    (∃ t, exec .data { monAboutToComplete with fb := monAboutToComplete.fb.set 5 0x47 } = .next t ∧ t.fstate = .idle ∧
      payloadOk t.fb.toList = false) ∧
    (∃ t, exec .start { waiting [0x41] with owner := .mon } = .next t ∧ t.fstate = .idle) :=
  ⟨by decide, by decide, ⟨_, rfl, by decide, by decide, by decide, by decide⟩, ⟨_, rfl, by decide, by decide⟩,
    ⟨_, rfl, by decide⟩⟩

theorem witness_NoChecksumErrorWhenDisabled :
    ({ collecting (frameS5.take 15) [0x03] with cken := false } : State).cken = false ∧
    ∃ t, exec .data { collecting (frameS5.take 15) [0x03] with cken := false } = .next t := ⟨by decide, _, rfl⟩

/-- A host decode waiting for its first byte meets the invariant and is blocked. -/
theorem witness_BlockedOnlyInTwoSituations :
    BlockInv (waiting []) ∧ Blocked (waiting []) ∧ Blocked polling ∧ Blocked nearTimeout ∧
    (Waiting { nearTimeout with tmr := 25000 } ∧ ¬ Blocked { nearTimeout with tmr := 25000 }) ∧
    ∃ t, exec .install (waiting []) = .next t := by
  refine ⟨?_, by decide, by decide, by decide, by decide, _, rfl⟩
  constructor
  case edges => trivial
  all_goals decide

/-- A trace that ends idle, one that ends blocked, and one that has not ended. -/
theorem witness_TraceEndsIdleOrBlocked :
    (TraceEnded State.reset ∧ (endReport State.reset).map (·.blocked) = some false) ∧
    (TraceEnded (waiting []) ∧ (endReport (waiting [])).map (·.blocked) = some true) ∧
    BlockInv State.reset ∧ ¬ TraceEnded (waiting [0x02]) ∧ ¬ TraceEnded { State.reset with trace := [now .tmo] } := by
  refine ⟨by decide, by decide, ?_, by decide, by decide⟩
  constructor
  case edges => trivial
  all_goals decide

theorem witness_CompletionReachesOwner :
    (waiting []).owner = .host ∧ monAboutToComplete.owner = .mon := by decide

/-- The codes of a state with a failed channel and a StreamFault in RESULT, and with a grant waiting. -/
theorem witness_RegisterViewsShowFields :
    (nearTimeout.fstate = .collect ∧ (waiting []).fstate = .start ∧ State.reset.fstate = .idle) ∧
    (monAboutToComplete.owner = .mon ∧ clearing.hreq = .clrbuf ∧ installed.monEn = true) ∧
    ({ State.reset with resKind := .err .streamFault } : State).resKind = .err .streamFault ∧
    ({ State.reset with datasize := .d14 } : State).datasize = .d14 := by decide

theorem witness_ClearBufferIsIdempotent :
    clearing.fstate = .idle ∧ clearing.hreq = .clrbuf ∧ clearing.evq = [] := by decide

theorem witness_MonitorStateWriters :
    (∃ t, exec .install State.reset = .next t ∧ t.monEn ≠ State.reset.monEn) ∧
    (∃ t, exec .rise State.reset = .next t ∧ t.line ≠ State.reset.line) ∧
    (∃ t, exec .fall installed = .next t ∧ t.lineQ ≠ installed.lineQ) ∧
    (∃ t, exec .data monAboutToComplete = .next t ∧ t.pstate ≠ monAboutToComplete.pstate) :=
  ⟨⟨_, rfl, by decide⟩, ⟨_, rfl, by decide⟩, ⟨_, rfl, by decide⟩, ⟨_, rfl, by decide⟩⟩

theorem witness_ConstantsAndBufferWriters :
    bothWait.fstate = .idle ∧
    (∃ t, exec (.grant .host) { bothWait with cnt := 16 } = .next t ∧ t.cnt ≠ 16) ∧
    (∃ t, exec .data (collecting [0x02] [0x31]) = .next t ∧ t.fb ≠ (collecting [0x02] [0x31]).fb) ∧
    (∃ t, exec .stx { waiting [0x02] with tmr := 7 } = .next t ∧ t.tmr ≠ 7) :=
  ⟨by decide, ⟨_, rfl, by decide⟩, ⟨_, rfl, by decide⟩, ⟨_, rfl, by decide⟩⟩

end Sys2Proof.Tests
end

namespace Sys2Proof.Machine

open Sys2Proof.Safety

/-! ### What an instruction can do, and what a step can do -/

/-- What exec makes of an instruction, said once: each command and event by its operation, the byte rows and frame rows
by the engine steps they name (log 7, log 8), and no change where the instruction is not enabled (log 9). -/
inductive Effect (s : State) : Instr → State → Prop
  | unchanged (i : Instr) : Effect s i s
  | start {i : Instr} (hi : i = .start ∨ i = .stx) : Effect s i (startStep s)
  | data {i : Instr} (hi : i = .data ∨ rowKind i = .byte) : Effect s i (dataStep s)
  | frame {i : Instr} (hi : rowKind i = .frame) (hs : StartEnabled s) (n : Nat) :
      Effect s i (dataSteps n (startStep s))
  | grant (p : Requester) : Effect s (.grant p) (grantStep p s)
  | fault (hs : FaultEnabled s) : Effect s .fault (raiseErr .streamFault s)
  | tmo (hs : TmoReady s) (ht : s.tframe ≤ s.tmr) : Effect s .tmo (raiseErr .incompleteFrame s)
  | tmo0 (hs : Tmo0Enabled s) : Effect s .tmo0 (complete (.ok 0) s)
  | sfault : Effect s .sfault { s with chFault := true }
  | rx (b : Byte) : Effect s (.rx b) { s with rxq := s.rxq ++ [b] }
  | rise : Effect s .rise (lineStep true s)
  | fall : Effect s .fall (lineStep false s)
  | readtag : Effect s .readtag (postRequest .readtag s)
  | clrbuf : Effect s .clrbuf (postRequest .clrbuf s)
  | gettag : Effect s .gettag (emit (.gotTag s.tag) s)
  | install (hp : s.linePresent = true) (hm : s.monEn = false) :
      Effect s .install { s with monEn := true, lineQ := s.line, evq := [], pstate := .idle }
  | uninstall : Effect s .uninstall { s with monEn := false, evq := [] }
  | cfgwr (hs : s.fstate = .idle) (sel val : Nat) : Effect s (.cfgwr sel val) (writeCfg sel val s)

theorem effect_takeDigit {i : Instr} (hi : rowKind i = .byte) (b : Byte) (s : State) :
    Effect s i (takeDigit b s) := by
  unfold takeDigit
  split
  · exact .data (.inr hi)
  · exact .unchanged i

theorem effect_takeAny {i : Instr} (hi : rowKind i = .byte) (b : Byte) (s : State) :
    Effect s i (takeAny b s) := by
  unfold takeAny
  split
  · exact .data (.inr hi)
  · exact .unchanged i

theorem effect_takeStx (s : State) : Effect s .stx (takeStx s) := by
  unfold takeStx
  split
  · exact .start (.inr rfl)
  · exact .unchanged _

theorem effect_wholeFrame {i : Instr} (hi : rowKind i = .frame) (d : DataSize) {f : List Byte}
    (hf : f ≠ []) (s : State) : Effect s i (wholeFrame d f s) := by
  unfold wholeFrame
  split
  next h =>
    obtain ⟨hs, hc, -, rfl⟩ := h
    exact .frame hi ⟨hs, hc, fun hr => hf (by simp [hr])⟩ _
  next => exact .unchanged i

theorem effect_ite {i : Instr} {s t : State} {p : Prop} [Decidable p] (h : p → Effect s i t) :
    Effect s i (if p then t else s) := by
  split
  next hp => exact h hp
  next => exact .unchanged i

/-- Every instruction answers a next state, and that state is one of its effects. -/
theorem exec_effect (i : Instr) (s : State) : ∃ t, exec i s = .next t ∧ Effect s i t := by
  cases i with
  | frameA => exact ⟨_, rfl, effect_wholeFrame rfl _ (by simp) s⟩
  | frameB => exact ⟨_, rfl, effect_wholeFrame rfl _ (by simp) s⟩
  | stx => exact ⟨_, rfl, effect_takeStx s⟩
  | hex0 | hex1 | hex2 | hex3 | hex4 | hex5 | hex6 | hex7 | hex8 | hex9
  | hexUpA | hexUpB | hexUpC | hexUpD | hexUpE | hexUpF
  | hexLowA | hexLowB | hexLowC | hexLowD | hexLowE | hexLowF =>
    exact ⟨_, rfl, effect_takeDigit rfl _ s⟩
  | nonhex b =>
    refine ⟨_, rfl, ?_⟩
    split
    · exact .unchanged _
    · exact effect_takeDigit rfl b s
  | any b => exact ⟨_, rfl, effect_takeAny rfl b s⟩
  | readtag => exact ⟨_, rfl, .readtag⟩
  | clrbuf => exact ⟨_, rfl, .clrbuf⟩
  | gettag => exact ⟨_, rfl, .gettag⟩
  | install => exact ⟨_, rfl, effect_ite fun h => .install h.1 h.2⟩
  | uninstall => exact ⟨_, rfl, .uninstall⟩
  | cfgwr sel val => exact ⟨_, rfl, effect_ite fun h => .cfgwr h sel val⟩
  | cmdNone => exact ⟨_, rfl, .unchanged _⟩
  | cmdReserved => exact ⟨_, rfl, .unchanged _⟩
  | rx b => exact ⟨_, rfl, .rx b⟩
  | tmo0 => exact ⟨_, rfl, effect_ite .tmo0⟩
  | sfault => exact ⟨_, rfl, .sfault⟩
  | tmo => exact ⟨_, rfl, effect_ite fun h => .tmo h.1 h.2⟩
  | rise => exact ⟨_, rfl, .rise⟩
  | fall => exact ⟨_, rfl, .fall⟩
  | grant p => exact ⟨_, rfl, .grant p⟩
  | start => exact ⟨_, rfl, .start (.inl rfl)⟩
  | data => exact ⟨_, rfl, .data (.inl rfl)⟩
  | fault => exact ⟨_, rfl, effect_ite .fault⟩

theorem effect_of_exec_eq {i : Instr} {s t : State} (h : exec i s = .next t) : Effect s i t := by
  obtain ⟨u, hu, he⟩ := exec_effect i s
  obtain rfl : u = t := Host.Outcome.next.inj (hu.symm.trans h)
  exact he

/-- Taking up an item moves nothing but TMR and the schedule (10 R44, 30 R98). -/
theorem takeUp_eq (it : Item) (rest : List Item) (s : State) :
    takeUp it rest s =
      { s with
        tmr := if s.fstate = .collect then s.tmr + it.after else s.tmr
        trace := remaining it rest s } := by
  have hr : remaining it rest (elapse it.after s) = remaining it rest s := by
    unfold remaining
    split <;> simp [engineEnabled_elapse]
  unfold takeUp
  rw [hr]
  unfold elapse
  split <;> rfl

/-- What a step can do: nothing, the overdue timer, the instruction of the item taken up, or what an item does that is
no instruction. -/
theorem step_cases {s t : State} (h : step s = .next t) :
    (s.trace = [] ∧ t = s) ∨
    ∃ it rest, s.trace = it :: rest ∧
      ((TimerDue s it.after ∧ exec .tmo (expire it rest s) = .next t) ∨
       (¬ TimerDue s it.after ∧
          ∃ i, fetchInstr it.signal (takeUp it rest s) = some i ∧ exec i (takeUp it rest s) = .next t) ∨
       (¬ TimerDue s it.after ∧ fetchInstr it.signal (takeUp it rest s) = none ∧
          t = nonInstr it.signal (takeUp it rest s))) := by
  unfold step at h
  split at h
  next htr => exact .inl ⟨htr, (Host.Outcome.next.inj h).symm⟩
  next it rest htr =>
    refine .inr ⟨it, rest, htr, ?_⟩
    split at h
    next hd => exact .inl ⟨hd, h⟩
    next hd =>
      split at h
      next i hi => exact .inr (.inl ⟨hd, i, hi, h⟩)
      next hn => exact .inr (.inr ⟨hd, hn, (Host.Outcome.next.inj h).symm⟩)

end Sys2Proof.Machine

namespace Sys2Proof.Safety

open Sys2Proof.Machine

/-! ### The invariant -/

theorem edgesEndAt_tail {e : Edge} {r : List Edge} {l : Bool} (h : edgesEndAt (e :: r) l) :
    edgesEndAt r l := by
  cases r with
  | nil => trivial
  | cons e' r => exact h.2

/-- The edge of a level change continues a queue of edges that ends at the old level (44 R202 (e)). -/
theorem edgesEndAt_append_edgeOf {q l : Bool} (hne : l ≠ q) :
    ∀ es : List Edge, edgesEndAt es q → edgesEndAt (es ++ edgeOf q l) l
  | [], _ => by revert hne; cases q <;> cases l <;> simp [edgeOf, edgesEndAt]
  | [e], h => by revert hne h; cases e <;> cases q <;> cases l <;> simp [edgeOf, edgesEndAt]
  | _ :: e' :: r, h => ⟨h.1, edgesEndAt_append_edgeOf hne (e' :: r) h.2⟩

/-- The parts of the invariant that do not speak of the operation in flight: they hold also inside a step, between the
end or the beginning of an operation and the state the step leaves. -/
structure AmbientInv (s : State) : Prop where
  positive : 0 < s.tframe
  count : s.cnt ≤ 16
  detector : s.monEn = true → s.lineQ = s.line
  detached : s.monEn = false → s.evq = []
  edges : edgesEndAt s.evq s.line
  noLine : s.linePresent = false → s.monEn = false ∧ s.tag = 0
  errorValue : s.resKind ≠ .ok → s.resValue = 0
  unset : s.resValid = false → s.resKind = .ok ∧ s.resValue = 0

theorem frameLen_le (d : DataSize) : frameLen d ≤ 16 := by cases d <;> decide

theorem one_lt_frameLen (d : DataSize) : 1 < frameLen d := by cases d <;> decide

section
variable {s t : State}

theorem BlockInv.ambient (h : BlockInv s) : AmbientInv s where
  positive := h.positive
  count := h.count
  detector := h.detector
  detached := h.detached
  edges := h.edges
  noLine hp := ⟨(h.noLine hp).1, (h.noLine hp).2.2⟩
  errorValue := h.errorValue
  unset := h.unset

theorem BlockInv.owner_ne_mon (h : BlockInv s) (hp : s.linePresent = false) : s.owner ≠ .mon :=
  (h.noLine hp).2.1

/-- With no operation in flight the ambient parts are the whole invariant. -/
theorem AmbientInv.blockInv (h : AmbientInv s) (hf : s.fstate = .idle) (ho : s.owner = .none) :
    BlockInv s where
  positive := h.positive
  gate := by simp [hf, ho]
  slot := by simp [ho]
  atStart := by simp [hf]
  inFrame := by simp [hf]
  count := h.count
  marker := by simp [hf]
  detector := h.detector
  detached := h.detached
  edges := h.edges
  noLine hp := ⟨(h.noLine hp).1, by simp [ho], (h.noLine hp).2⟩
  errorValue := h.errorValue
  unset := h.unset

/-- RXQ, CH_FAULT, TMR, PSTATE, the schedule and the output log are free in the invariant. -/
theorem BlockInv.frame (h : BlockInv s) (rxq : List Byte) (chFault : Bool) (tmr : Duration) (pstate : PState)
    (trace : List Item) (outs : List Output) :
    BlockInv { s with rxq := rxq, chFault := chFault, tmr := tmr, pstate := pstate, trace := trace, outs := outs } :=
  { h with }

/-- The end of an operation leaves the invariant, whatever the result (40 R130, 44 R207). -/
theorem AmbientInv.blockInv_delivered (h : AmbientInv s) {o : Owner} (ho : s.linePresent = false → o ≠ .mon)
    (res : DecRes) : BlockInv (delivered o res s) := by
  cases o with
  | none => exact AmbientInv.blockInv { h with } rfl rfl
  | host =>
    refine AmbientInv.blockInv { h with errorValue := ?_, unset := nofun } rfl rfl
    cases res <;> simp [delivered, resultKind, resultValue]
  | mon =>
    exact AmbientInv.blockInv { h with noLine := fun hp => absurd rfl (ho hp) } rfl rfl

theorem AmbientInv.blockInv_complete (h : AmbientInv s) (ho : s.linePresent = false → s.owner ≠ .mon)
    (res : DecRes) : BlockInv (complete res s) :=
  complete_eq_delivered res s ▸ h.blockInv_delivered ho res

theorem AmbientInv.blockInv_raiseErr (h : AmbientInv s) (ho : s.linePresent = false → s.owner ≠ .mon)
    (k : ErrKind) : BlockInv (raiseErr k s) := by
  cases k with
  | streamFault => exact h.blockInv_complete ho _
  | incompleteFrame | badStartMarker | malformedPayload | checksumMismatch =>
    exact AmbientInv.blockInv_complete (s := rxFlush s) { h with } ho _

theorem AmbientInv.blockInv_finishFrame (h : AmbientInv s) (ho : s.linePresent = false → s.owner ≠ .mon) :
    BlockInv (finishFrame s) := by
  unfold finishFrame
  split
  · exact h.blockInv_complete ho _
  · exact h.blockInv_raiseErr ho _

theorem BlockInv.startStep (h : BlockInv s) : BlockInv (startStep s) := by
  obtain he | ⟨r, hs, -, -, he⟩ | ⟨b, r, -, -, -, -, he⟩ := startStep_cases s <;> rw [he]
  · exact h
  · have ho : s.owner ≠ .none := fun ho => by simp [h.gate.2 ho] at hs
    exact { h with
      gate := by simp [ho]
      atStart := nofun
      inFrame := fun _ => ⟨le_rfl, one_lt_frameLen _⟩
      count := by simp
      marker := fun _ => by simp }
  · exact (h.frame r s.chFault s.tmr s.pstate s.trace s.outs).ambient.blockInv_raiseErr h.owner_ne_mon _

theorem BlockInv.dataStep (h : BlockInv s) : BlockInv (dataStep s) := by
  obtain he | ⟨b, r, hs, -, -, hc, he⟩ | ⟨b, r, hs, -, -, hc, he⟩ := dataStep_cases s <;> rw [he]
  · exact h
  · have hpos : s.cnt ≠ 0 := by have := (h.inFrame hs).1; omega
    have hle := frameLen_le s.datasize
    exact { h with
      atStart := fun h' => by simp [hs] at h'
      inFrame := fun _ => ⟨Nat.le_add_left 1 s.cnt, hc⟩
      count := show s.cnt + 1 ≤ 16 by omega
      marker := fun _ => by simpa [stored, Vector.getElem_setIfInBounds, hpos] using h.marker hs }
  · have hcnt : s.cnt + 1 ≤ 16 := hc ▸ frameLen_le s.datasize
    exact AmbientInv.blockInv_finishFrame (s := stored b r s) { h.ambient with count := hcnt } h.owner_ne_mon

theorem BlockInv.dataSteps : ∀ (n : Nat) {s : State}, BlockInv s → BlockInv (dataSteps n s)
  | 0, _, h => h
  | n + 1, _, h => BlockInv.dataSteps n h.dataStep

/-- Only an installed monitor has edges waiting, and only a line lets it be installed (44 R203, R205). -/
theorem AmbientInv.linePresent_of_edge (h : AmbientInv s) (he : s.evq ≠ []) : s.linePresent = true := by
  by_contra hp
  exact he (h.detached (h.noLine (by simpa using hp)).1)

theorem AmbientInv.popEdge (h : AmbientInv s) {e : Edge} {r : List Edge} (he : s.evq = e :: r) :
    AmbientInv { s with evq := r } :=
  { h with
    detached := fun hm => by simp [h.detached hm] at he
    edges := edgesEndAt_tail (he ▸ h.edges) }

/-- The beginning of an operation, or its end in the same step on a failed channel (43 R182, 44 R206). -/
theorem AmbientInv.blockInv_beginDecode (h : AmbientInv s) {o : Owner} (hn : o ≠ .none)
    (hh : o = .host → s.hreq = .readtag) (hm : o = .mon → s.linePresent = true) :
    BlockInv (beginDecode o s) := by
  have ho : s.linePresent = false → o ≠ .mon := fun hp ho => by simp [hm ho] at hp
  rw [beginDecode_eq]
  split
  · exact h.blockInv_delivered ho _
  · exact { h with
      gate := by simp [hn]
      slot := hh
      atStart := fun _ => rfl
      inFrame := nofun
      count := Nat.zero_le 16
      marker := nofun
      noLine := fun hp => ⟨(h.noLine hp).1, ho hp, (h.noLine hp).2⟩ }

theorem BlockInv.grantStep (h : BlockInv s) (p : Requester) : BlockInv (grantStep p s) := by
  obtain he | ⟨-, hq, he⟩ | ⟨hf, -, he⟩ | ⟨r, -, hq, he⟩ | ⟨r, hf, hq, he⟩ := grantStep_cases p s <;> rw [he]
  · exact h
  · exact h.ambient.blockInv_beginDecode nofun (fun _ => hq) nofun
  · exact AmbientInv.blockInv { h.ambient with } hf (h.gate.1 hf)
  · exact (h.ambient.popEdge hq).blockInv_beginDecode nofun nofun
      fun _ => h.ambient.linePresent_of_edge (by simp [hq])
  · exact AmbientInv.blockInv { h.ambient.popEdge hq with noLine := fun hp => ⟨(h.noLine hp).1, rfl⟩ }
      hf (h.gate.1 hf)

theorem BlockInv.postRequest (h : BlockInv s) (r : HReq) : BlockInv (postRequest r s) := by
  unfold Machine.postRequest
  split
  next hq => exact { h with slot := fun ho => by simp [h.slot ho] at hq }
  next => exact h

theorem BlockInv.lineStep (h : BlockInv s) (l : Bool) : BlockInv (lineStep l s) := by
  unfold Machine.lineStep
  split
  next => exact h
  next hl =>
    split
    next hm =>
      have hq : s.lineQ = s.line := h.detector hm
      exact { h with
        detector := fun _ => rfl
        detached := fun hm' => by simp [hm] at hm'
        edges := edgesEndAt_append_edgeOf (by rwa [hq]) s.evq (hq ▸ h.edges) }
    next hm =>
      have hq : s.evq = [] := h.detached (by simpa using hm)
      exact { h with
        detector := fun hm' => absurd hm' hm
        edges := show edgesEndAt s.evq l by rw [hq]; trivial }

theorem AmbientInv.writeCfg (h : AmbientInv s) (sel val : Nat) : AmbientInv (writeCfg sel val s) := by
  unfold Machine.writeCfg
  split
  · split
    · exact { h with }
    · split
      · exact { h with }
      · exact h
  · split
    · exact { h with }
    · split
      · exact { h with }
      · exact h
  · split
    next hv => exact { h with positive := hv }
    next => exact h
  · exact h

theorem BlockInv.effect (h : BlockInv s) {i : Instr} (he : Effect s i t) : BlockInv t := by
  cases he with
  | unchanged => exact h
  | start => exact h.startStep
  | data => exact h.dataStep
  | frame _ _ n => exact h.startStep.dataSteps n
  | grant p => exact h.grantStep p
  | fault => exact h.ambient.blockInv_raiseErr h.owner_ne_mon _
  | tmo => exact h.ambient.blockInv_raiseErr h.owner_ne_mon _
  | tmo0 => exact h.ambient.blockInv_complete h.owner_ne_mon _
  | sfault => exact h.frame s.rxq true s.tmr s.pstate s.trace s.outs
  | rx b => exact h.frame (s.rxq ++ [b]) s.chFault s.tmr s.pstate s.trace s.outs
  | rise => exact h.lineStep true
  | fall => exact h.lineStep false
  | readtag => exact h.postRequest .readtag
  | clrbuf => exact h.postRequest .clrbuf
  | gettag => exact h.frame s.rxq s.chFault s.tmr s.pstate s.trace _
  | install hp _ =>
    exact { h with
      detector := fun _ => rfl
      detached := nofun
      edges := trivial
      noLine := fun hp' => by simp [hp] at hp' }
  | uninstall =>
    exact { h with
      detector := nofun
      detached := fun _ => rfl
      edges := trivial
      noLine := fun hp => ⟨rfl, (h.noLine hp).2⟩ }
  | cfgwr hs sel val =>
    exact (h.ambient.writeCfg sel val).blockInv (by simpa using hs) (by simpa using h.gate.1 hs)

theorem BlockInv.exec (h : BlockInv s) {i : Instr} (he : exec i s = .next t) : BlockInv t :=
  h.effect (effect_of_exec_eq he)

theorem BlockInv.expire (h : BlockInv s) (it : Item) (rest : List Item) : BlockInv (expire it rest s) :=
  h.frame s.rxq s.chFault _ s.pstate _ s.outs

theorem BlockInv.takeUp (h : BlockInv s) (it : Item) (rest : List Item) : BlockInv (takeUp it rest s) := by
  rw [takeUp_eq]
  exact h.frame s.rxq s.chFault _ s.pstate _ s.outs

end

theorem blockInv_launch (a : Config.LaunchArgs) : BlockInv (State.launch a) :=
  AmbientInv.blockInv
    { positive := a.tFrame.2
      count := Nat.zero_le 16
      detector := nofun
      detached := fun _ => rfl
      edges := trivial
      noLine := fun _ => ⟨rfl, rfl⟩
      errorValue := fun _ => rfl
      unset := fun _ => ⟨rfl, rfl⟩ }
    rfl rfl

/-- Reset is a launch that keeps the wire, the schedule and the output log (70 R262). -/
theorem blockInv_hostReset (a : Config.LaunchArgs) (s : State) : BlockInv (hostReset a s) :=
  { blockInv_launch a with
    detector := nofun
    edges := trivial
    noLine := fun _ => ⟨rfl, nofun, rfl⟩ }

theorem BlockInv.nonInstr {s : State} (h : BlockInv s) (sig : Signal) : BlockInv (nonInstr sig s) := by
  unfold Machine.nonInstr
  split
  · exact h.frame s.rxq s.chFault s.tmr s.pstate s.trace _
  · exact blockInv_hostReset _ s
  · exact h

/-- Settles O40: the parts that do not speak of an operation hold of the launch values, and no operation is in flight. -/
theorem invariantAtLaunch : Obligations.InvariantAtLaunch := by
  unfold Obligations.InvariantAtLaunch
  exact blockInv_launch

/-- Settles O41: by what a step can do, and then by the effect of its instruction. -/
theorem invariantKeptByEveryStep : Obligations.InvariantKeptByEveryStep := by
  unfold Obligations.InvariantKeptByEveryStep
  intro s t h hstep
  obtain ⟨-, rfl⟩ | ⟨it, rest, -, ⟨-, he⟩ | ⟨-, i, -, he⟩ | ⟨-, -, rfl⟩⟩ := step_cases hstep
  · exact h
  · exact (h.expire it rest).exec he
  · exact (h.takeUp it rest).exec he
  · exact (h.takeUp it rest).nonInstr it.signal

end Sys2Proof.Safety

namespace Sys2Proof.Machine

open Sys2Proof.Safety

/-! ### Steps that are not enabled, and what is kept of FB, CNT, TMR and the output log -/

section
variable {s t : State}

theorem startStep_of_not_enabled (h : ¬ StartEnabled s) : startStep s = s := by
  obtain he | ⟨r, hs, hc, hr, -⟩ | ⟨b, r, hs, hc, hr, -, -⟩ := startStep_cases s
  · exact he
  · exact absurd ⟨hs, hc, by simp [hr]⟩ h
  · exact absurd ⟨hs, hc, by simp [hr]⟩ h

theorem dataStep_of_not_enabled (h : ¬ DataEnabled s) : dataStep s = s := by
  obtain he | ⟨b, r, hs, hc, hr, hn, -⟩ | ⟨b, r, hs, hc, hr, hn, -⟩ := dataStep_cases s
  · exact he
  · exact absurd ⟨hs, hc, by omega, by simp [hr]⟩ h
  · exact absurd ⟨hs, hc, by omega, by simp [hr]⟩ h

theorem faultStep_of_not_enabled (h : ¬ FaultEnabled s) : faultStep s = s := if_neg h

theorem grantStep_of_not_enabled (h : ¬ GrantEnabled s) (p : Requester) : grantStep p s = s := by
  obtain he | ⟨hf, hq, -⟩ | ⟨hf, hq, -⟩ | ⟨r, hf, hq, -⟩ | ⟨r, hf, hq, -⟩ := grantStep_cases p s
  · exact he
  · exact absurd ⟨hf, .inl (by simp [hq])⟩ h
  · exact absurd ⟨hf, .inl (by simp [hq])⟩ h
  · exact absurd ⟨hf, .inr (by simp [hq])⟩ h
  · exact absurd ⟨hf, .inr (by simp [hq])⟩ h

theorem takeStx_of_not_front (h : s.rxq.head? ≠ some Config.startMarker) : takeStx s = s :=
  if_neg fun hc => h hc.2

theorem takeStx_of_not_enabled (h : ¬ StartEnabled s) : takeStx s = s := by
  rw [takeStx, startStep_of_not_enabled h, ite_self]

theorem takeDigit_of_not_enabled {b : Byte}
    (h : ¬ (DataEnabled s ∧ s.ctx.wantsDigit ∧ s.rxq.head? = some b)) : takeDigit b s = s := by
  unfold takeDigit
  split
  next hc => exact dataStep_of_not_enabled fun hd => h ⟨hd, hc.2⟩
  next => rfl

theorem takeAny_of_not_enabled {b : Byte}
    (h : ¬ (DataEnabled s ∧ s.ctx.ignoresByte ∧ s.rxq.head? = some b)) : takeAny b s = s := by
  unfold takeAny
  split
  next hc => exact dataStep_of_not_enabled fun hd => h ⟨hd, hc.2⟩
  next => rfl

theorem wholeFrame_of_not_enabled {d : DataSize} {f : List Byte} (hf : f ≠ [])
    (h : ¬ (StartEnabled s ∧ s.datasize = d ∧ s.rxq.take (frameLen d) = f)) : wholeFrame d f s = s := by
  refine if_neg fun ⟨hs, hc, hd, ht⟩ => h ⟨⟨hs, hc, fun hr => hf ?_⟩, hd, ht⟩
  rw [← ht, hr, List.take_nil]

theorem lineStep_of_eq {l : Bool} (h : s.line = l) : lineStep l s = s := if_pos h.symm

/-- The HEX_ rows take their byte where a digit is wanted (41 R150). -/
theorem exec_of_mem_hexRows {i : Instr} {b : Byte} (h : (i, b) ∈ hexRows) (s : State) :
    exec i s = .next (takeDigit b s) := by
  have hall : ∀ x ∈ hexRows, exec x.1 s = .next (takeDigit x.2 s) := by
    simp only [hexRows, List.cons_append, List.nil_append, List.forall_mem_cons]
    exact ⟨rfl, rfl, rfl, rfl, rfl, rfl, rfl, rfl, rfl, rfl, rfl, rfl, rfl, rfl, rfl, rfl, rfl, rfl, rfl, rfl,
      rfl, rfl, nofun⟩
  exact hall _ h

theorem exec_digitRow_of_not_enabled {i : Instr} {b : Byte} (hi : (i, b) ∈ hexRows ∨ i = .nonhex b)
    (h : ¬ (DataEnabled s ∧ s.ctx.wantsDigit ∧ s.rxq.head? = some b)) : exec i s = .next s := by
  have ht : takeDigit b s = s := takeDigit_of_not_enabled h
  obtain hi | rfl := hi
  · rw [exec_of_mem_hexRows hi, ht]
  · show Host.Outcome.next (if isHex b then s else takeDigit b s) = .next s
    rw [ht, ite_self]

end

/-- Settles O35: no step's branch is reached unless the step is enabled and the row names the byte to be taken. -/
theorem disabledStepsChangeNothing : Obligations.DisabledStepsChangeNothing := by
  unfold Obligations.DisabledStepsChangeNothing
  exact fun s => ⟨
    fun h => ⟨congrArg _ (startStep_of_not_enabled h), congrArg _ (takeStx_of_not_enabled h)⟩,
    fun h => congrArg _ (dataStep_of_not_enabled h),
    fun h => congrArg _ (faultStep_of_not_enabled h),
    fun h p => congrArg _ (grantStep_of_not_enabled h p),
    ⟨fun h => congrArg _ (lineStep_of_eq h), fun h => congrArg _ (lineStep_of_eq h)⟩,
    fun h => congrArg _ (takeStx_of_not_front h),
    fun _ _ hi h => exec_digitRow_of_not_enabled hi h,
    fun _ h => congrArg _ (takeAny_of_not_enabled h),
    fun _ _ _ _ _ _ _ _ _ _ _ _ _ _ _ h => congrArg _ (wholeFrame_of_not_enabled (List.cons_ne_nil _ _) h),
    fun _ _ _ _ _ _ _ _ _ _ _ _ _ h => congrArg _ (wholeFrame_of_not_enabled (List.cons_ne_nil _ _) h)⟩

/-! ### What an instruction leaves alone -/

section
variable {s t : State}

theorem complete_outs_prefix (res : DecRes) (s : State) : s.outs <+: (complete res s).outs := by
  unfold complete
  cases s.owner with
  | none => exact List.prefix_rfl
  | host | mon => exact List.prefix_append _ _

theorem raiseErr_outs_prefix (k : ErrKind) (s : State) : s.outs <+: (raiseErr k s).outs := by
  cases k with
  | streamFault => exact complete_outs_prefix _ s
  | incompleteFrame | badStartMarker | malformedPayload | checksumMismatch =>
    exact complete_outs_prefix _ (rxFlush s)

theorem finishFrame_outs_prefix (s : State) : s.outs <+: (finishFrame s).outs := by
  unfold finishFrame
  split
  · exact complete_outs_prefix _ s
  · exact raiseErr_outs_prefix _ s

theorem startStep_outs_prefix (s : State) : s.outs <+: (startStep s).outs := by
  obtain he | ⟨r, -, -, -, he⟩ | ⟨b, r, -, -, -, -, he⟩ := startStep_cases s
  · rw [he]
  · rw [he]
  · rw [he]; exact raiseErr_outs_prefix _ { s with rxq := r }

theorem dataStep_outs_prefix (s : State) : s.outs <+: (dataStep s).outs := by
  obtain he | ⟨b, r, -, -, -, -, he⟩ | ⟨b, r, -, -, -, -, he⟩ := dataStep_cases s
  · rw [he]
  · rw [he]
  · rw [he]; exact finishFrame_outs_prefix (stored b r s)

theorem dataSteps_outs_prefix : ∀ (n : Nat) (s : State), s.outs <+: (dataSteps n s).outs
  | 0, _ => List.prefix_rfl
  | n + 1, s => (dataStep_outs_prefix s).trans (dataSteps_outs_prefix n (dataStep s))

theorem beginDecode_outs_prefix (o : Owner) (s : State) : s.outs <+: (beginDecode o s).outs := by
  unfold beginDecode
  split
  · exact raiseErr_outs_prefix _ { s with owner := o }
  · exact List.prefix_rfl

theorem grantStep_outs_prefix (p : Requester) (s : State) : s.outs <+: (grantStep p s).outs := by
  obtain he | ⟨-, -, he⟩ | ⟨-, -, he⟩ | ⟨r, -, -, he⟩ | ⟨r, -, -, he⟩ := grantStep_cases p s
  · rw [he]
  · rw [he]; exact beginDecode_outs_prefix _ s
  · rw [he]; exact List.prefix_append _ _
  · rw [he]; exact beginDecode_outs_prefix _ { s with evq := r }
  · rw [he]; exact List.prefix_append _ _

/-- Outputs are only ever added (00 R11). -/
theorem Effect.outs_prefix {i : Instr} (h : Effect s i t) : s.outs <+: t.outs := by
  cases h with
  | start => exact startStep_outs_prefix s
  | data => exact dataStep_outs_prefix s
  | frame _ _ n => exact (startStep_outs_prefix s).trans (dataSteps_outs_prefix n _)
  | grant p => exact grantStep_outs_prefix p s
  | fault => exact raiseErr_outs_prefix _ s
  | tmo => exact raiseErr_outs_prefix _ s
  | tmo0 => exact complete_outs_prefix _ s
  | gettag => exact List.prefix_append _ _
  | unchanged | sfault | rx | install | uninstall => exact List.prefix_rfl
  | rise | fall | readtag | clrbuf | cfgwr => simp

/-- The platform constants and the schedule are no instruction's to write (00 R7). -/
theorem Effect.constants {i : Instr} (h : Effect s i t) :
    t.chNonblock = s.chNonblock ∧ t.linePresent = s.linePresent ∧ t.trace = s.trace := by
  cases h with
  | unchanged | sfault | rx | gettag | install | uninstall => exact ⟨rfl, rfl, rfl⟩
  | start | data | frame | grant | fault | tmo | tmo0 | rise | fall | readtag | clrbuf | cfgwr => simp

theorem takesBytes_of_start_or_frame {i : Instr} (h : i = .start ∨ i = .stx ∨ rowKind i = .frame) :
    TakesBytes i := by
  obtain rfl | rfl | hk := h
  · exact .inl rfl
  · exact .inr (.inr (.inl rfl))
  · exact .inr (.inr (.inr hk))

theorem Effect.fb_eq {i : Instr} (h : Effect s i t) : t.fb = s.fb ∨ TakesBytes i := by
  cases h with
  | start hi => exact .inr (takesBytes_of_start_or_frame (hi.imp_right .inl))
  | data hi => exact .inr (.inr (hi.imp_right .inl))
  | frame hi => exact .inr (takesBytes_of_start_or_frame (.inr (.inr hi)))
  | unchanged | sfault | rx | gettag | install | uninstall => exact .inl rfl
  | grant | fault | tmo | tmo0 | rise | fall | readtag | clrbuf | cfgwr => exact .inl (by simp)

theorem Effect.cnt_eq {i : Instr} (h : Effect s i t) :
    t.cnt = s.cnt ∨ TakesBytes i ∨ ∃ p, i = .grant p := by
  cases h with
  | start hi => exact .inr (.inl (takesBytes_of_start_or_frame (hi.imp_right .inl)))
  | data hi => exact .inr (.inl (.inr (hi.imp_right .inl)))
  | frame hi => exact .inr (.inl (takesBytes_of_start_or_frame (.inr (.inr hi))))
  | grant p => exact .inr (.inr ⟨p, rfl⟩)
  | unchanged | sfault | rx | gettag | install | uninstall => exact .inl rfl
  | fault | tmo | tmo0 | rise | fall | readtag | clrbuf | cfgwr => exact .inl (by simp)

theorem Effect.tmr_eq {i : Instr} (h : Effect s i t) :
    t.tmr = s.tmr ∨ i = .start ∨ i = .stx ∨ rowKind i = .frame := by
  cases h with
  | start hi => exact .inr (hi.imp_right .inl)
  | frame hi => exact .inr (.inr (.inr hi))
  | unchanged | sfault | rx | gettag | install | uninstall => exact .inl rfl
  | data | grant | fault | tmo | tmo0 | rise | fall | readtag | clrbuf | cfgwr => exact .inl (by simp)

/-- With no operation in flight no byte is taken (00 R15): a step that takes bytes changes nothing. -/
theorem Effect.eq_of_idle {i : Instr} (h : Effect s i t) (hs : s.fstate = .idle) (hi : TakesBytes i) : t = s := by
  have hstart : startStep s = s := startStep_of_not_enabled fun he => nomatch hs.symm.trans he.1
  have hdata : dataStep s = s := dataStep_of_not_enabled fun he => nomatch hs.symm.trans he.1
  cases h with
  | unchanged => rfl
  | start => exact hstart
  | data => exact hdata
  | frame _ he => exact nomatch hs.symm.trans he.1
  | _ => simp [TakesBytes, rowKind] at hi

end

/-- Settles O55: by the effect of the instruction; when idle, the instructions that take bytes change nothing. -/
theorem constantsAndBufferWriters : Obligations.ConstantsAndBufferWriters := by
  unfold Obligations.ConstantsAndBufferWriters
  intro i s t h
  have he : Effect s i t := effect_of_exec_eq h
  obtain ⟨hnb, hlp, htr⟩ := he.constants
  obtain ⟨o, ho⟩ := he.outs_prefix
  refine ⟨hnb, hlp, htr, ⟨o, ho.symm⟩, he.fb_eq.resolve_left, he.cnt_eq.resolve_left,
    he.tmr_eq.resolve_left, fun hs => ?_⟩
  by_cases hi : TakesBytes i
  · obtain rfl := he.eq_of_idle hs hi
    exact ⟨rfl, rfl, fun hc => absurd rfl hc⟩
  · exact ⟨he.fb_eq.resolve_right hi, he.tmr_eq.resolve_right fun hm => hi (takesBytes_of_start_or_frame hm),
      fun hc => (he.cnt_eq.resolve_left hc).resolve_left hi⟩

/-! ### A step runs the decoded instruction -/

/-- An item that selects no operation, and is no register read and no reset, is used up and does nothing more. -/
theorem step_no_instr {s : State} {it : Item} {rest : List Item}
    (h : s.trace = it :: rest) (ht : ¬ TimerDue s it.after)
    (hi : fetchInstr it.signal (takeUp it rest s) = none) :
    step s = .next (nonInstr it.signal (takeUp it rest s)) := by
  simp [step, h, ht, hi]

/-- Only register reads and reset do something without a word. -/
theorem nonInstr_of_word {sig : Signal} {s : State} {w : Word} (h : fetchWord sig s = some w) (t : State) :
    nonInstr sig t = t := by
  cases sig with
  | readReg | reset => simp [fetchWord] at h
  | cmd | rx | tmo0 | sfault | tmo | level | engine | run | takeByte | takeFrame => rfl

/-- Settles O3: by the equations of the step and of taking up an item; the words of the signals are fetchWord's arms. -/
theorem stepRunsDecodedInstruction : Obligations.StepRunsDecodedInstruction := by
  unfold Obligations.StepRunsDecodedInstruction
  refine ⟨fun s it rest h ht => ⟨fun w i hw hd => ?_, fun w e hw hd => ?_, fun hsig hr => ?_, ?_⟩, fun s => ?_⟩
  · exact step_instr h ht (by simp [fetchInstr, hw, hd, Except.toOption])
  · rw [step_no_instr h ht (by simp [fetchInstr, hw, hd, Except.toOption]), nonInstr_of_word hw]
  · rw [step_no_instr h ht (by simp [fetchInstr, fetchWord, hsig, hr]), hsig]
    rfl
  · exact takeUp_eq it rest s
  · exact ⟨fun _ _ _ => rfl, fun _ => rfl, rfl, rfl, rfl, fun _ => rfl, fun _ => ⟨rfl, rfl⟩,
      fun b r h => by simp [fetchWord, h], fun h => by simp [fetchWord, h],
      fun h => by simp [fetchWord, h, frameLen], fun h => by simp [fetchWord, h, frameLen],
      fun _ => rfl, fun _ => rfl⟩

end Sys2Proof.Machine

namespace Sys2Proof.Machine

open Sys2Proof.Safety

/-! ### What an instruction does to RESULT -/

/-- How far an operation has come in a state that an engine step leaves: it goes on, and only RXQ, FB, CNT, TMR and
FSTATE have moved, or it has ended with a result after such a move (40 R122, R124, R125, R130). -/
inductive Advance (s : State) : State → Prop
  | goesOn (rxq : List Byte) (fb : Vector Byte 16) (cnt : Nat) (tmr : Duration) (fstate : FState) :
      Advance s { s with rxq := rxq, fb := fb, cnt := cnt, tmr := tmr, fstate := fstate }
  | ends (res : DecRes) (rxq : List Byte) (fb : Vector Byte 16) (cnt : Nat) (tmr : Duration) (fstate : FState) :
      Advance s (complete res { s with rxq := rxq, fb := fb, cnt := cnt, tmr := tmr, fstate := fstate })

/-- RESULT is the same in both states (10 R34). -/
def SameResult (s t : State) : Prop :=
  t.resValid = s.resValid ∧ t.resKind = s.resKind ∧ t.resValue = s.resValue

/-- A host's operation has ended in `t`: RESULT shows what DONE reports, and the request slot is free (40 R130). -/
def ReportsToHost (s t : State) : Prop :=
  t.owner = .none ∧ t.hreq = .none ∧ t.resValid = true ∧
    ∃ res, t.outs = s.outs ++ [.done res] ∧ t.resKind = resultKind res ∧ t.resValue = resultValue res

section
variable {s t : State}

theorem Advance.refl (s : State) : Advance s s := .goesOn s.rxq s.fb s.cnt s.tmr s.fstate

theorem advance_complete (res : DecRes) (s : State) : Advance s (complete res s) :=
  .ends res s.rxq s.fb s.cnt s.tmr s.fstate

theorem advance_raiseErr (k : ErrKind) (s : State) : Advance s (raiseErr k s) := by
  cases k with
  | streamFault => exact advance_complete _ s
  | incompleteFrame | badStartMarker | malformedPayload | checksumMismatch =>
    exact .ends _ [] s.fb s.cnt s.tmr s.fstate

theorem advance_finishFrame (s : State) : Advance s (finishFrame s) := by
  unfold finishFrame
  split
  · exact advance_complete _ s
  · exact advance_raiseErr _ s

/-- What happens after a move of the five fields is an advance from before it. -/
theorem Advance.of_moved {rxq : List Byte} {fb : Vector Byte 16} {cnt : Nat} {tmr : Duration} {fstate : FState}
    (h : Advance { s with rxq := rxq, fb := fb, cnt := cnt, tmr := tmr, fstate := fstate } t) : Advance s t := by
  cases h with
  | goesOn rxq fb cnt tmr fstate => exact .goesOn rxq fb cnt tmr fstate
  | ends res rxq fb cnt tmr fstate => exact .ends res rxq fb cnt tmr fstate

theorem advance_startStep (s : State) : Advance s (startStep s) := by
  obtain he | ⟨r, -, -, -, he⟩ | ⟨b, r, -, -, -, -, he⟩ := startStep_cases s <;> rw [he]
  · exact .refl s
  · exact .goesOn r _ 1 0 .collect
  · exact .of_moved (advance_raiseErr _ { s with rxq := r })

theorem advance_dataStep (s : State) : Advance s (dataStep s) := by
  obtain he | ⟨b, r, -, -, -, -, he⟩ | ⟨b, r, -, -, -, -, he⟩ := dataStep_cases s <;> rw [he]
  · exact .refl s
  · exact .goesOn r _ _ s.tmr s.fstate
  · exact .of_moved (advance_finishFrame (stored b r s))

/-- A DATA step after the end of the operation does nothing, so the end stays the one end. -/
theorem Advance.dataStep (h : Advance s t) : Advance s (dataStep t) := by
  cases h with
  | goesOn rxq fb cnt tmr fstate => exact .of_moved (advance_dataStep _)
  | ends res rxq fb cnt tmr fstate =>
    rw [dataStep_of_not_enabled fun hd => absurd (hd.1 : FState.idle = .collect) nofun]
    exact .ends res rxq fb cnt tmr fstate

theorem Advance.dataSteps : ∀ (n : Nat) {t : State}, Advance s t → Advance s (dataSteps n t)
  | 0, _, h => h
  | n + 1, _, h => Advance.dataSteps n h.dataStep

theorem SameResult.refl (s : State) : SameResult s s := ⟨rfl, rfl, rfl⟩

/-- Only an operation of the host writes RESULT at its end, and then it reports (40 R130, 44 R207). -/
theorem delivered_result (o : Owner) (res : DecRes) (s : State) :
    SameResult s (delivered o res s) ∨ (o = .host ∧ ReportsToHost s (delivered o res s)) := by
  cases o with
  | none | mon => exact .inl ⟨rfl, rfl, rfl⟩
  | host => exact .inr ⟨rfl, rfl, rfl, rfl, res, rfl, rfl, rfl⟩

theorem Advance.result (h : Advance s t) : SameResult s t ∨ (s.owner = .host ∧ ReportsToHost s t) := by
  cases h with
  | goesOn => exact .inl ⟨rfl, rfl, rfl⟩
  | ends res rxq fb cnt tmr fstate =>
    rw [complete_eq_delivered]
    exact delivered_result s.owner res { s with rxq := rxq, fb := fb, cnt := cnt, tmr := tmr, fstate := fstate }

theorem beginDecode_result (o : Owner) (s : State) :
    SameResult s (beginDecode o s) ∨ (o = .host ∧ ReportsToHost s (beginDecode o s)) := by
  rw [beginDecode_eq]
  split
  · exact delivered_result o _ s
  · exact .inl ⟨rfl, rfl, rfl⟩

/-- A grant writes RESULT only when it takes up a READTAG on a failed channel (43 R182). -/
theorem grantStep_result (p : Requester) (s : State) :
    SameResult s (grantStep p s) ∨ (s.hreq = .readtag ∧ ReportsToHost s (grantStep p s)) := by
  obtain he | ⟨-, hq, he⟩ | ⟨-, -, he⟩ | ⟨r, -, -, he⟩ | ⟨r, -, -, he⟩ := grantStep_cases p s <;> rw [he]
  · exact .inl (.refl s)
  · exact (beginDecode_result .host s).imp_right fun ⟨_, hr⟩ => ⟨hq, hr⟩
  · exact .inl ⟨rfl, rfl, rfl⟩
  · exact .inl ((beginDecode_result .mon { s with evq := r }).resolve_right nofun)
  · exact .inl ⟨rfl, rfl, rfl⟩

/-- RESULT is kept unless a host's operation ends: one in flight, or one that a grant ends at once. -/
theorem Effect.result {i : Instr} (h : Effect s i t) :
    SameResult s t ∨ ((s.owner = .host ∨ ∃ p, i = .grant p ∧ s.hreq = .readtag) ∧ ReportsToHost s t) := by
  have inFlight (ha : Advance s t) :
      SameResult s t ∨ ((s.owner = .host ∨ ∃ p, i = .grant p ∧ s.hreq = .readtag) ∧ ReportsToHost s t) :=
    ha.result.imp_right (And.imp_left .inl)
  cases h with
  | start => exact inFlight (advance_startStep s)
  | data => exact inFlight (advance_dataStep s)
  | frame _ _ n => exact inFlight ((advance_startStep s).dataSteps n)
  | fault | tmo => exact inFlight (advance_raiseErr _ s)
  | tmo0 => exact inFlight (advance_complete _ s)
  | grant p => exact (grantStep_result p s).imp_right (And.imp_left fun hq => .inr ⟨p, rfl, hq⟩)
  | unchanged | sfault | rx | gettag | install | uninstall => exact .inl ⟨rfl, rfl, rfl⟩
  | rise | fall | readtag | clrbuf | cfgwr => exact .inl (by simp [SameResult])

end

/-- Settles O44: by the effect of the instruction on RESULT. -/
theorem onlyHostCompletionsWriteResult : Obligations.OnlyHostCompletionsWriteResult := by
  unfold Obligations.OnlyHostCompletionsWriteResult
  intro i s t h hne
  refine (effect_of_exec_eq h).result.resolve_left fun ⟨hvalid, hkind, hvalue⟩ => ?_
  simp [hvalid, hkind, hvalue] at hne

/-! ### What an instruction does to EVQ, and what a step does to CH_FAULT -/

section
variable {s t : State}

/-- A level change queues at most the one edge it is (44 R202). -/
theorem lineStep_evq_cases (l : Bool) (s : State) :
    (lineStep l s).evq = s.evq ∨ ∃ e, (lineStep l s).evq = s.evq ++ [e] := by
  have hedge : edgeOf s.lineQ l = [] ∨ ∃ e, edgeOf s.lineQ l = [e] := by
    cases s.lineQ <;> cases l <;> simp [edgeOf]
  unfold lineStep
  split
  · exact .inl rfl
  · split
    · exact hedge.imp (fun h => by simp [h]) fun ⟨e, h⟩ => ⟨e, by simp [h]⟩
    · exact .inl rfl

/-- A grant takes at most the oldest edge (44 R205). -/
theorem grantStep_evq_cases (p : Requester) (s : State) :
    (grantStep p s).evq = s.evq ∨ ∃ e, s.evq = e :: (grantStep p s).evq := by
  obtain he | ⟨-, -, he⟩ | ⟨-, -, he⟩ | ⟨r, -, hq, he⟩ | ⟨r, -, hq, he⟩ := grantStep_cases p s <;> rw [he]
  · exact .inl rfl
  · exact .inl (by simp)
  · exact .inl (by simp)
  · exact .inr ⟨.rise, by simp [hq]⟩
  · exact .inr ⟨.fall, by simp [hq]⟩

theorem Effect.evq_cases {i : Instr} (h : Effect s i t) :
    t.evq = s.evq ∨
    ((i = .rise ∨ i = .fall) ∧ ∃ e, t.evq = s.evq ++ [e]) ∨
    ((∃ p, i = .grant p) ∧ ∃ e, s.evq = e :: t.evq) ∨
    ((i = .install ∨ i = .uninstall) ∧ t.evq = []) := by
  cases h with
  | rise => exact (lineStep_evq_cases true s).imp_right fun he => .inl ⟨.inl rfl, he⟩
  | fall => exact (lineStep_evq_cases false s).imp_right fun he => .inl ⟨.inr rfl, he⟩
  | grant p => exact (grantStep_evq_cases p s).imp_right fun he => .inr (.inl ⟨⟨p, rfl⟩, he⟩)
  | install => exact .inr (.inr (.inr ⟨.inl rfl, rfl⟩))
  | uninstall => exact .inr (.inr (.inr ⟨.inr rfl, rfl⟩))
  | unchanged | sfault | rx | gettag => exact .inl rfl
  | start | data | frame | fault | tmo | tmo0 | readtag | clrbuf | cfgwr => exact .inl (by simp)

/-- No instruction clears CH_FAULT (10 R46, 60 R237). -/
theorem Effect.chFault_of_chFault {i : Instr} (h : Effect s i t) (hs : s.chFault = true) : t.chFault = true := by
  cases h with
  | sfault => rfl
  | unchanged | rx | gettag | install | uninstall => exact hs
  | start | data | frame | grant | fault | tmo | tmo0 | rise | fall | readtag | clrbuf | cfgwr => simpa using hs

/-- An item that is no instruction keeps CH_FAULT unless it is a reset (70 R262). -/
theorem nonInstr_chFault (sig : Signal) (s : State) :
    (nonInstr sig s).chFault = s.chFault ∨ ∃ a, sig = .reset a := by
  cases sig with
  | reset a => exact .inr ⟨a, rfl⟩
  | _ => exact .inl rfl

end

/-- Settles O49: by the effect of the instruction on EVQ. -/
theorem edgesAreHandledInOrder : Obligations.EdgesAreHandledInOrder := by
  unfold Obligations.EdgesAreHandledInOrder
  exact fun _ _ _ h hne => (effect_of_exec_eq h).evq_cases.resolve_left hne

/-- Settles O45: whatever a step runs keeps a set CH_FAULT, but for an item that is no instruction and a reset. -/
theorem onlyResetClearsChannelFault : Obligations.OnlyResetClearsChannelFault := by
  unfold Obligations.OnlyResetClearsChannelFault
  intro s t hstep hs ht
  have kept {i : Instr} {u : State} (he : exec i u = .next t) (hu : u.chFault = true) : False :=
    Bool.false_ne_true (ht.symm.trans ((effect_of_exec_eq he).chFault_of_chFault hu))
  obtain ⟨-, rfl⟩ | ⟨it, rest, htr, ⟨-, he⟩ | ⟨-, i, -, he⟩ | ⟨-, -, rfl⟩⟩ := step_cases hstep
  · exact absurd (hs.symm.trans ht) (by decide)
  · exact (kept he hs).elim
  · exact (kept he (by simpa using hs)).elim
  · obtain hc | ⟨a, ha⟩ := nonInstr_chFault it.signal (takeUp it rest s)
    · simp [hc, hs] at ht
    · exact ⟨a, it, rest, htr, ha⟩

/-! ### The fields of the host-visible registers -/

/-- The second of three fields stands above the first. -/
theorem extractLsb'_append_middle {u v w : Nat} (x : BitVec w) (y : BitVec v) (z : BitVec u) :
    (x ++ y ++ z).extractLsb' u v = y := by
  rw [BitVec.extractLsb'_append_eq_of_le le_rfl, Nat.sub_self, BitVec.extractLsb'_append_eq_right]

/-- A flag above two fields is the top bit. -/
theorem getLsbD_append_top {u v : Nat} (b : Bool) (y : BitVec v) (z : BitVec u) :
    (BitVec.ofBool b ++ y ++ z).getLsbD (u + v) = b := by
  simp only [BitVec.getLsbD_append]; simp

section
variable (s : State)

theorem cr0_datasize : (cr0 s).extractLsb' 0 5 = BitVec.ofNat 5 (frameLen s.datasize) :=
  BitVec.extractLsb'_append_eq_right

theorem cr0_unused : (cr0 s).extractLsb' 5 3 = 0#3 :=
  extractLsb'_append_middle (BitVec.ofBool s.cken) 0#3 (BitVec.ofNat 5 (frameLen s.datasize))

theorem cr0_cken : (cr0 s).getLsbD 8 = s.cken :=
  getLsbD_append_top s.cken 0#3 (BitVec.ofNat 5 (frameLen s.datasize))

/-- A bit of CR2 by the widths of its fields (10 R30). -/
theorem cr2_getLsbD (i : Nat) :
    (cr2 s).getLsbD i =
      (hreqCode s.hreq ++ 0#1 ++ pstateCode s.pstate ++ BitVec.ofBool s.monEn ++ BitVec.ofBool s.chFault ++
        ownerCode s.owner ++ fstateCode s.fstate).getLsbD i := rfl

theorem cr2_fstate : (cr2 s).extractLsb' 0 2 = fstateCode s.fstate :=
  BitVec.extractLsb'_append_eq_right

theorem cr2_owner : (cr2 s).extractLsb' 2 2 = ownerCode s.owner :=
  extractLsb'_append_middle
    (hreqCode s.hreq ++ 0#1 ++ pstateCode s.pstate ++ BitVec.ofBool s.monEn ++ BitVec.ofBool s.chFault)
    (ownerCode s.owner) (fstateCode s.fstate)

theorem cr2_chFault : (cr2 s).getLsbD 4 = s.chFault := by
  simp only [cr2_getLsbD, BitVec.getLsbD_append]; simp

theorem cr2_monEn : (cr2 s).getLsbD 5 = s.monEn := by
  simp only [cr2_getLsbD, BitVec.getLsbD_append]; simp

theorem cr2_pstate : (cr2 s).getLsbD 6 = (pstateCode s.pstate).getLsbD 0 := by
  simp only [cr2_getLsbD, BitVec.getLsbD_append]; simp

theorem cr2_unused : (cr2 s).getLsbD 7 = false := by
  simp only [cr2_getLsbD, BitVec.getLsbD_append]; simp

theorem cr2_hreq : (cr2 s).extractLsb' 8 2 = hreqCode s.hreq := by
  ext i hi
  rw [BitVec.getElem_extractLsb', cr2_getLsbD]
  obtain rfl | rfl : i = 0 ∨ i = 1 := by omega
  · simp only [BitVec.getLsbD_append]; simp
  · simp only [BitVec.getLsbD_append]; simp

theorem cr3_kind : (cr3 s).extractLsb' 0 3 = kindCode s.resKind :=
  BitVec.extractLsb'_append_eq_right

theorem cr3_unused : (cr3 s).extractLsb' 3 4 = 0#4 :=
  extractLsb'_append_middle (BitVec.ofBool s.resValid) 0#4 (kindCode s.resKind)

theorem cr3_valid : (cr3 s).getLsbD 7 = s.resValid :=
  getLsbD_append_top s.resValid 0#4 (kindCode s.resKind)

end

/-- Settles O56: each field is cut out of its register as the code of its value. -/
theorem registerViewsShowFields : Obligations.RegisterViewsShowFields := by
  unfold Obligations.RegisterViewsShowFields
  intro s
  rw [cr0_datasize, cr2_fstate, cr2_owner, cr2_hreq, cr2_pstate, cr3_kind]
  exact ⟨⟨rfl, rfl, rfl, rfl, rfl, rfl⟩,
    ⟨congrArg fun d => BitVec.ofNat 5 (frameLen d), congrArg fun d => BitVec.ofNat 5 (frameLen d),
      cr0_unused s, cr0_cken s⟩,
    ⟨congrArg fstateCode, congrArg fstateCode, congrArg fstateCode⟩,
    ⟨congrArg ownerCode, congrArg ownerCode, congrArg ownerCode⟩,
    ⟨cr2_chFault s, cr2_monEn s, cr2_unused s,
      congrArg fun p => (pstateCode p).getLsbD 0, congrArg fun p => (pstateCode p).getLsbD 0⟩,
    ⟨congrArg hreqCode, congrArg hreqCode, congrArg hreqCode⟩,
    ⟨congrArg kindCode, congrArg kindCode, congrArg kindCode, congrArg kindCode, congrArg kindCode,
      congrArg kindCode, cr3_unused s, cr3_valid s⟩⟩

end Sys2Proof.Machine

namespace Sys2Proof.Machine

open Sys2Proof.Safety

/-! ### CFG while an operation is in flight -/

/-- Settles O46: only CFGWR writes CFG, and it has no effect while an operation is in flight. -/
theorem configurationConstantInFlight : Obligations.ConfigurationConstantInFlight := by
  unfold Obligations.ConfigurationConstantInFlight
  intro i s t hs h
  cases effect_of_exec_eq h with
  | cfgwr hidle => exact absurd hidle hs
  | unchanged | sfault | rx | gettag | install | uninstall => exact ⟨rfl, rfl, rfl⟩
  | start | data | frame | grant | fault | tmo | tmo0 | rise | fall | readtag | clrbuf => simp

/-! ### What an instruction does to RXQ -/

section
variable {s t u : State}

theorem checkFrame_ne_streamFault (f : List Byte) (cken : Bool) : checkFrame f cken ≠ .err .streamFault := by
  unfold checkFrame
  repeat' split
  all_goals exact nofun

/-- A framing error raised on the way from `s` flushes (60 R236). -/
theorem framingFlush_raiseErr {k : ErrKind} (hk : k ≠ .streamFault) (hs : s.fstate ≠ .idle)
    (howner : u.owner = s.owner) (houts : u.outs = s.outs) : FramingFlush s (raiseErr k u) := by
  have hrxq : (raiseErr k u).rxq = [] := by
    cases k with
    | streamFault => exact absurd rfl hk
    | incompleteFrame | badStartMarker | malformedPayload | checksumMismatch => exact complete_rxq (rxFlush u) _
  have hend := raiseErr_eq_delivered k u
  rw [if_neg hk, howner] at hend
  refine ⟨hs, raiseErr_fstate k u, hrxq, k, hk, fun ho => ?_, fun ho => ?_⟩
  · rw [hend, ho, ← houts]; exact ⟨rfl, rfl⟩
  · rw [hend, ho, ← houts]; exact ⟨rfl, rfl⟩

/-- The end of a frame leaves RXQ, unless a check fails: then it flushes (40 R125). -/
theorem finishFrame_rxq_cases (hs : s.fstate ≠ .idle) (howner : u.owner = s.owner) (houts : u.outs = s.outs) :
    (finishFrame u).rxq = u.rxq ∨ FramingFlush s (finishFrame u) := by
  unfold finishFrame
  split
  next => exact .inl (complete_rxq u _)
  next k hk =>
    have hne : k ≠ .streamFault := fun he => checkFrame_ne_streamFault _ _ (he ▸ hk)
    exact .inr (framingFlush_raiseErr hne hs howner houts)

/-- START takes the marker, or flushes for another byte (40 R122). -/
theorem startStep_rxq_cases (s : State) :
    startStep s = s ∨
    (s.rxq = Config.startMarker :: (startStep s).rxq ∧ (startStep s).cnt = 1 ∧
      (startStep s).fb = s.fb.set 0 Config.startMarker) ∨
    FramingFlush s (startStep s) := by
  obtain he | ⟨r, -, -, hr, he⟩ | ⟨b, r, hs, -, hr, -, he⟩ := startStep_cases s
  · exact .inl he
  · rw [he]; exact .inr (.inl ⟨hr, rfl, rfl⟩)
  · rw [he]; exact .inr (.inr (framingFlush_raiseErr nofun (by simp [hs]) rfl rfl))

/-- DATA takes one byte into FB, or flushes for the error of a complete frame (40 R124, R125). -/
theorem dataStep_rxq_cases (s : State) :
    dataStep s = s ∨
    (∃ b, s.rxq = b :: (dataStep s).rxq ∧ (dataStep s).cnt = s.cnt + 1 ∧
      (dataStep s).fb = s.fb.setIfInBounds s.cnt b) ∨
    FramingFlush s (dataStep s) := by
  obtain he | ⟨b, r, -, -, hr, -, he⟩ | ⟨b, r, hs, -, hr, -, he⟩ := dataStep_cases s
  · exact .inl he
  · rw [he]; exact .inr (.inl ⟨b, hr, rfl, rfl⟩)
  · rw [he]
    refine .inr ((finishFrame_rxq_cases (u := stored b r s) (by simp [hs]) rfl rfl).imp_left fun hq => ?_)
    exact ⟨b, by simp [hq, hr], by simp, by simp⟩

/-! #### A whole frame -/

/-- On the way from `s` to `u` the first `k` bytes of RXQ have gone to FB, and the operation is still in flight. -/
structure Taken (s : State) (k : Nat) (u : State) : Prop where
  fstate : u.fstate = .collect
  chFault : u.chFault = false
  datasize : u.datasize = s.datasize
  owner : u.owner = s.owner
  outs : u.outs = s.outs
  cnt : u.cnt = k
  rxq : u.rxq = s.rxq.drop k
  fb : u.fb.toList.take k = s.rxq.take k

/-- Writing the next element of a list that agrees with `q` up to `k` makes them agree up to `k + 1`. -/
theorem take_set_eq_take {l q r : List Byte} {k : Nat} {b : Byte} (hk : k < l.length) (hq : q.drop k = b :: r)
    (h : l.take k = q.take k) : (l.set k b).take (k + 1) = q.take (k + 1) := by
  have hb : q[k]? = some b := by rw [← List.head?_drop, hq]; rfl
  rw [List.take_add_one, List.take_add_one, hb, List.take_set_of_le le_rfl, h, List.getElem?_set_self hk]

theorem taken_startStep {r : List Byte} (hs : s.fstate = .start) (hc : s.chFault = false)
    (hr : s.rxq = Config.startMarker :: r) : Taken s 1 (startStep s) := by
  have he : startStep s =
      { s with rxq := r, fb := s.fb.set 0 Config.startMarker, cnt := 1, tmr := 0, fstate := .collect } := by
    simp [startStep, hr, hs, hc]
  rw [he]
  refine ⟨rfl, hc, rfl, rfl, rfl, rfl, by simp [hr], ?_⟩
  rw [Vector.toList_set]
  exact take_set_eq_take (by simp) hr rfl

theorem Taken.stored {k : Nat} {b : Byte} {r : List Byte} (h : Taken s k u) (hk : k < 16) (hr : u.rxq = b :: r) :
    Taken s (k + 1) (stored b r u) := by
  have hq : s.rxq.drop k = b :: r := h.rxq.symm.trans hr
  refine ⟨h.fstate, h.chFault, h.datasize, h.owner, h.outs, congrArg (· + 1) h.cnt, ?_, ?_⟩
  · rw [List.drop_add_one_eq_tail_drop, hq]; rfl
  · rw [Vector.toList_setIfInBounds, h.cnt]
    exact take_set_eq_take (by simpa using hk) hq h.fb

theorem dataStep_of_enabled {b : Byte} {r : List Byte} (h : DataEnabled s) (hr : s.rxq = b :: r) :
    dataStep s = if s.cnt + 1 = frameLen s.datasize then finishFrame (stored b r s) else stored b r s := by
  obtain ⟨hs, hc, hn, -⟩ := h
  simp only [dataStep, hr]
  exact if_pos ⟨hs, hc, hn⟩

/-- With the bytes of the frame waiting, the DATA step takes the next one, and ends the frame if it is the last. -/
theorem Taken.dataStep_eq {k : Nat} (h : Taken s k u) (hk : k < frameLen s.datasize)
    (hlen : frameLen s.datasize ≤ s.rxq.length) :
    ∃ v, Taken s (k + 1) v ∧
      dataStep u = if k + 1 = frameLen s.datasize then finishFrame v else v := by
  obtain ⟨b, r, hr⟩ : ∃ b r, u.rxq = b :: r := by
    refine List.exists_cons_of_length_pos ?_
    rw [h.rxq, List.length_drop]
    omega
  have he : DataEnabled u := ⟨h.fstate, h.chFault, by rwa [h.cnt, h.datasize], by simp [hr]⟩
  have h16 : frameLen s.datasize ≤ 16 := frameLen_le s.datasize
  refine ⟨_, h.stored (by omega) hr, ?_⟩
  rw [dataStep_of_enabled he hr, h.cnt, h.datasize]

/-- The DATA steps that are left of a waiting frame take all of it and end it. -/
theorem Taken.dataSteps_eq_finishFrame (hlen : frameLen s.datasize ≤ s.rxq.length) :
    ∀ (n : Nat) {k : Nat} {u : State}, Taken s k u → k + n + 1 = frameLen s.datasize →
      ∃ v, Taken s (frameLen s.datasize) v ∧ dataSteps (n + 1) u = finishFrame v
  | 0, k, u, h, hn => by
    obtain ⟨v, hv, he⟩ := h.dataStep_eq (by omega) hlen
    rw [if_pos hn] at he
    exact ⟨v, hn ▸ hv, he⟩
  | n + 1, k, u, h, hn => by
    obtain ⟨v, hv, he⟩ := h.dataStep_eq (by omega) hlen
    rw [if_neg (by omega)] at he
    show ∃ w, _ ∧ dataSteps (n + 1) (dataStep u) = finishFrame w
    rw [he]
    exact hv.dataSteps_eq_finishFrame hlen n (by omega)

/-- A frame row takes CFG.DATASIZE bytes into FB, or flushes for the frame's error (30 R90, 40 R125). -/
theorem wholeFrame_rxq_cases {d : DataSize} {f : List Byte} (hf : (Config.startMarker :: f).length = frameLen d)
    (ht : wholeFrame d (Config.startMarker :: f) s = t) :
    t = s ∨
    (t.rxq = s.rxq.drop (frameLen s.datasize) ∧
      t.fb.toList.take (frameLen s.datasize) = s.rxq.take (frameLen s.datasize)) ∨
    FramingFlush s t := by
  subst ht
  unfold wholeFrame
  split
  next hc =>
    obtain ⟨hs, hfault, rfl, htake⟩ := hc
    have hlen : frameLen s.datasize ≤ s.rxq.length := by
      rw [← hf, ← htake]
      exact List.length_take_le' _ _
    have hr : s.rxq = Config.startMarker :: (f ++ s.rxq.drop (frameLen s.datasize)) := by
      rw [← List.cons_append, ← htake, List.take_append_drop]
    have hone := one_lt_frameLen s.datasize
    obtain ⟨v, hv, he⟩ := (taken_startStep hs hfault hr).dataSteps_eq_finishFrame hlen
      (frameLen s.datasize - 2) (by omega)
    rw [show frameLen s.datasize - 1 = frameLen s.datasize - 2 + 1 by omega, he]
    refine .inr ((finishFrame_rxq_cases (by simp [hs]) hv.owner hv.outs).imp_left fun hq => ?_)
    exact ⟨hq.trans hv.rxq, by rw [finishFrame_fb]; exact hv.fb⟩
  next => exact .inl rfl

/-! #### Grants, and every other instruction -/

/-- A grant leaves RXQ, but for the flushes of CLRBUF and of a falling edge (43 R185, 44 R208). -/
theorem grantStep_rxq_cases (p : Requester) (s : State) :
    (grantStep p s).rxq = s.rxq ∨
    ((grantStep p s).rxq = [] ∧ s.hreq = .clrbuf ∧ (grantStep p s).hreq = .none ∧
      (grantStep p s).outs = s.outs ++ [.clrDone]) ∨
    ((grantStep p s).rxq = [] ∧ s.evq = .fall :: (grantStep p s).evq ∧
      (grantStep p s).outs = s.outs ++ [.tagUpd 0]) := by
  obtain he | ⟨-, -, he⟩ | ⟨-, hq, he⟩ | ⟨r, -, -, he⟩ | ⟨r, -, hq, he⟩ := grantStep_cases p s <;> rw [he]
  · exact .inl rfl
  · exact .inl (beginDecode_rxq s .host)
  · exact .inr (.inl ⟨rfl, hq, rfl, rfl⟩)
  · exact .inl (beginDecode_rxq { s with evq := r } .mon)
  · exact .inr (.inr ⟨rfl, hq, rfl⟩)

/-- TMO flushes when it happens (40 R126). -/
theorem Effect.tmo_cases (h : Effect s .tmo t) : t = s ∨ FramingFlush s t := by
  cases h with
  | unchanged => exact .inl rfl
  | tmo hs => exact .inr (framingFlush_raiseErr nofun (by simp [hs.1]) rfl rfl)
  | start hi | data hi | frame hi => simp [rowKind] at hi

/-- DATA and the byte rows but STX are the DATA step, or change nothing (log 7, log 9). -/
theorem Effect.eq_dataStep {i : Instr} (h : Effect s i t) (hi : i = .data ∨ (rowKind i = .byte ∧ i ≠ .stx)) :
    t = s ∨ t = dataStep s := by
  cases h with
  | unchanged => exact .inl rfl
  | data => exact .inr rfl
  | start hstart => obtain rfl | rfl := hstart <;> simp [rowKind] at hi
  | frame hframe => obtain rfl | ⟨hbyte, -⟩ := hi <;> simp_all [rowKind]
  | _ => simp [rowKind] at hi

/-- START and STX are the START step, or change nothing (log 7, log 9). -/
theorem eq_startStep_of_exec {i : Instr} (h : exec i s = .next t) (hi : i = .start ∨ i = .stx) :
    t = s ∨ t = startStep s := by
  obtain rfl | rfl := hi
  · exact .inr (Host.Outcome.next.inj h).symm
  · have ht : takeStx s = t := Host.Outcome.next.inj h
    rw [← ht, takeStx]
    split
    · exact .inr rfl
    · exact .inl rfl

theorem not_takesBytes {i : Instr}
    (hi : rowKind i = .command ∨ i = .tmo0 ∨ i = .sfault ∨ i = .rise ∨ i = .fall ∨ i = .fault) :
    ¬ TakesBytes i := by
  obtain hk | rfl | rfl | rfl | rfl | rfl := hi
  · rintro (rfl | rfl | hb)
    · cases hk
    · cases hk
    · simp [hk] at hb
  all_goals simp [TakesBytes, rowKind]

/-- An instruction that neither takes bytes nor brings one, and is no TMO and no grant, leaves RXQ. -/
theorem Effect.rxq_eq {i : Instr} (h : Effect s i t)
    (hi : rowKind i = .command ∨ i = .tmo0 ∨ i = .sfault ∨ i = .rise ∨ i = .fall ∨ i = .fault) :
    t.rxq = s.rxq := by
  have hn : ¬ TakesBytes i := not_takesBytes hi
  cases h with
  | unchanged | sfault | gettag | install | uninstall => rfl
  | fault | tmo0 | rise | fall | readtag | clrbuf | cfgwr => simp [raiseErr]
  | start hstart => exact absurd (takesBytes_of_start_or_frame (hstart.imp_right .inl)) hn
  | data hdata => exact absurd (.inr (hdata.imp_right .inl)) hn
  | frame hframe => exact absurd (.inr (.inr (.inr hframe))) hn
  | rx | tmo | grant => simp [rowKind] at hi

end

/-- Settles O48: by the effect of the instruction, a frame row's DATA steps counted by induction. -/
theorem receiveQueueKeepsOrder : Obligations.ReceiveQueueKeepsOrder := by
  unfold Obligations.ReceiveQueueKeepsOrder
  intro i s t h
  have heff : Effect s i t := effect_of_exec_eq h
  refine ⟨?_, fun hi => ?_, fun hi => ?_, fun hi => ?_, ?_, ?_, heff.rxq_eq⟩
  · rintro b rfl
    exact congrArg State.rxq (Host.Outcome.next.inj h).symm
  · obtain ht | rfl := eq_startStep_of_exec h hi
    · exact .inl ht
    · exact startStep_rxq_cases s
  · obtain ht | rfl := heff.eq_dataStep hi
    · exact .inl ht
    · exact dataStep_rxq_cases s
  · cases i with
    | frameA => exact wholeFrame_rxq_cases rfl (Host.Outcome.next.inj h)
    | frameB => exact wholeFrame_rxq_cases rfl (Host.Outcome.next.inj h)
    | _ => simp [rowKind] at hi
  · rintro rfl
    exact heff.tmo_cases
  · rintro p rfl
    obtain rfl : grantStep p s = t := Host.Outcome.next.inj h
    exact grantStep_rxq_cases p s

/-- Settles O47: RX appends, a grant is not enabled in flight, and the others leave RXQ. -/
theorem singleReaderOfTheChannel : Obligations.SingleReaderOfTheChannel := by
  unfold Obligations.SingleReaderOfTheChannel
  intro i s t hs h hi
  obtain ⟨hrx, -, -, -, -, -, hkeep⟩ := receiveQueueKeepsOrder i s t h
  cases i with
  | rx b => exact ⟨[b], hrx b rfl⟩
  | grant p =>
    have ht : grantStep p s = t := Host.Outcome.next.inj h
    rw [grantStep_of_not_enabled fun hg => hs hg.1] at ht
    exact ⟨[], by simp [ht]⟩
  | readtag | clrbuf | gettag | install | uninstall | cfgwr | cmdNone | cmdReserved | sfault | rise | fall | fault =>
    exact ⟨[], by rw [hkeep (by simp [rowKind]), List.append_nil]⟩
  | _ => simp at hi

/-! ### Clearing the buffer -/

/-- With no edge waiting, the grant of a CLRBUF is its action, whichever requester is preferred (43 R181). -/
theorem exec_grant_clrbuf {s : State} (p : Requester) (hs : s.fstate = .idle) (hq : s.hreq = .clrbuf)
    (hev : s.evq = []) : exec (.grant p) s = .next (grantHostClear s) := by
  show Host.Outcome.next (grantStep p s) = _
  simp [grantStep, chooseRequest, grantHost, hs, hq, hev]

/-- Settles O53: after the first grant RXQ and HREQ are empty, so the second request and its grant restore the state. -/
theorem clearBufferIsIdempotent : Obligations.ClearBufferIsIdempotent := by
  unfold Obligations.ClearBufferIsIdempotent
  intro s p hs hq hev
  exact ⟨grantHostClear s, { grantHostClear s with hreq := .clrbuf }, exec_grant_clrbuf p hs hq hev, rfl, rfl, rfl,
    exec_grant_clrbuf p hs rfl hev⟩

end Sys2Proof.Machine

namespace Sys2Proof

open Sys2Proof.Machine Sys2Proof.Safety

/-! ### What a received byte decodes to -/

section
variable {c : Ctx}

theorem hexRow_of_mem_hexRows {i : Instr} {b : Byte} (h : (i, b) ∈ hexRows) : hexRow b = some i := by
  have hall : ∀ x ∈ hexRows, hexRow x.2 = some x.1 := by decide
  exact hall _ h

theorem digitRow_of_mem_hexRows {i : Instr} {b : Byte} (h : (i, b) ∈ hexRows) : digitRow b = i := by
  rw [digitRow, hexRow_of_mem_hexRows h]

theorem digitRow_of_not_isHex {b : Byte} (h : isHex b = false) : digitRow b = .nonhex b := by
  rw [digitRow, Laws.Encodable.hexRow_eq_none_of_not_isHex b h]

/-- The 22 digits of the converter are the bytes of the table's HEX_ rows (41 R151). -/
theorem digitRow_mem_hexRows : ∀ b : Byte, isHex b = true → (digitRow b, b) ∈ hexRows := by
  decide

/-- The two conditions of 30 R93 leave no position after 0 to both or to neither. -/
theorem Ctx.ignoresByte_iff : c.ignoresByte ↔ 1 ≤ c.pos ∧ ¬ c.wantsDigit := by
  cases hk : c.cken with
  | true => simp [Ctx.ignoresByte, Ctx.wantsDigit, hk]; omega
  | false => simp [Ctx.ignoresByte, Ctx.wantsDigit, hk]; omega

theorem decode_byte_of_start (hs : c.fstate = .start) (b : Byte) :
    decode c (.byte b) = .ok (if b = Config.startMarker then .stx else .start) := by
  simp only [decode, decodeByte, hs]
  split <;> rfl

theorem decode_byte_of_wantsDigit (hs : c.fstate = .collect) (hw : c.wantsDigit) (b : Byte) :
    decode c (.byte b) = .ok (digitRow b) := by
  simp only [decode, decodeByte, hs]
  exact if_pos hw

theorem decode_byte_of_ignoresByte (hs : c.fstate = .collect) (hi : c.ignoresByte) (b : Byte) :
    decode c (.byte b) = .ok (.any b) := by
  simp only [decode, decodeByte, hs]
  rw [if_neg (Ctx.ignoresByte_iff.1 hi).2, if_pos hi]

theorem decode_of_mem_hexRows {i : Instr} {b : Byte} (h : (i, b) ∈ hexRows)
    (hc : c.fstate = .collect ∧ c.wantsDigit) : decode c (.byte b) = .ok i := by
  rw [decode_byte_of_wantsDigit hc.1 hc.2, digitRow_of_mem_hexRows h]

end

/-- Settles O8: a byte row by its position's class, a frame row by its length and start marker, an engine step by the
state that selects it; a command, a strobe or a level decodes to its row in every context. -/
theorem decodeEncodeAgree : Obligations.DecodeEncodeAgree := by
  unfold Obligations.DecodeEncodeAgree
  intro i c hwf hc
  cases i with
  | frameA => simp [decode, encode, decodeFrame, show c.datasize = .d16 from hc]
  | frameB => simp [decode, encode, decodeFrame, show c.datasize = .d14 from hc]
  | stx => exact decode_byte_of_start hc _
  | hex0 | hex1 | hex2 | hex3 | hex4 | hex5 | hex6 | hex7 | hex8 | hex9
  | hexUpA | hexUpB | hexUpC | hexUpD | hexUpE | hexUpF
  | hexLowA | hexLowB | hexLowC | hexLowD | hexLowE | hexLowF =>
    exact decode_of_mem_hexRows (by simp [hexRows]) hc
  | nonhex b =>
    have hb : isHex b = false := by simpa [wellFormed] using hwf
    exact (decode_byte_of_wantsDigit hc.1 hc.2 b).trans (congrArg _ (digitRow_of_not_isHex hb))
  | any b => exact decode_byte_of_ignoresByte hc.1 hc.2 b
  | readtag | clrbuf | gettag | install | uninstall | cfgwr | cmdNone | cmdReserved
  | rx | tmo0 | sfault | tmo | rise | fall => rfl
  | grant => simp [decode, encode, engineRow, show c.fstate = .idle from hc]
  | start | data => simp [decode, encode, engineRow, hc.1, hc.2]
  | fault =>
    obtain ⟨hf, hch⟩ := hc
    cases hs : c.fstate with
    | idle => exact absurd hs hf
    | start | collect => simp [decode, encode, engineRow, hs, hch]

/-- Settles O9: by the byte's row at position 0, where a digit is wanted, and where the byte is ignored. -/
theorem byteClassesByPosition : Obligations.ByteClassesByPosition := by
  unfold Obligations.ByteClassesByPosition
  exact fun c b => ⟨
    fun hs => decode_byte_of_start hs b,
    fun hs hw hb => ⟨_, digitRow_mem_hexRows b hb, decode_byte_of_wantsDigit hs hw b⟩,
    fun hs hw hb => digitRow_of_not_isHex hb ▸ decode_byte_of_wantsDigit hs hw b,
    fun hs hp hw => decode_byte_of_ignoresByte hs (Ctx.ignoresByte_iff.2 ⟨hp, hw⟩) b⟩

/-- Settles O7: the HEX_ words are rows of hexRows at a payload position, and 0x47 is no digit; the byte at position 11
is ignored without CKEN; the other words decode by their codes. -/
theorem sampleWordsDecode : Obligations.SampleWordsDecode := by
  unfold Obligations.SampleWordsDecode
  intro at1 at0
  have hw : at1.fstate = .collect ∧ at1.wantsDigit := ⟨rfl, .inl ⟨Nat.le_refl 1, by decide⟩⟩
  exact ⟨decode_byte_of_start rfl _,
    decode_of_mem_hexRows (by simp [hexRows]) hw, decode_of_mem_hexRows (by simp [hexRows]) hw,
    decode_of_mem_hexRows (by simp [hexRows]) hw, decode_byte_of_wantsDigit hw.1 hw.2 _,
    decode_byte_of_ignoresByte rfl (.inr ⟨.inl rfl, rfl⟩) _, rfl, rfl, rfl, rfl⟩

end Sys2Proof

namespace Sys2Proof.Machine

/-! ### The item run -/

section
variable {s : State}

theorem engineEnabled_takeUp (it : Item) (rest : List Item) : EngineEnabled (takeUp it rest s) ↔ EngineEnabled s := by
  simp [EngineEnabled, GrantEnabled, StartEnabled, DataEnabled, FaultEnabled]

@[simp] theorem ctx_takeUp (it : Item) (rest : List Item) : (takeUp it rest s).ctx = s.ctx := by
  simp [State.ctx]

theorem engineRow_cases (c : Ctx) (p : Requester) :
    engineRow c p = .grant p ∨ engineRow c p = .start ∨ engineRow c p = .data ∨ engineRow c p = .fault := by
  unfold engineRow
  split <;> simp

/-- A turn of the engine with no step enabled changes nothing (log 9). -/
theorem exec_engineRow_of_not_enabled (h : ¬ EngineEnabled s) (p : Requester) :
    exec (engineRow s.ctx p) s = .next s := by
  obtain ⟨hstart, hdata, hfault, hgrant, -⟩ := disabledStepsChangeNothing s
  simp only [EngineEnabled, not_or] at h
  obtain ⟨hg, hs, hd, hf⟩ := h
  obtain e | e | e | e := engineRow_cases s.ctx p <;> rw [e]
  · exact hgrant hg p
  · exact (hstart hs).1
  · exact hdata hd
  · exact hfault hf

/-- Taking up `run` leaves it in the schedule exactly while an engine step is enabled (30 R98). -/
theorem takeUp_run (d : Duration) (p : Requester) (rest : List Item) :
    takeUp ⟨d, .run p⟩ rest s =
      { elapse d s with trace := if EngineEnabled s then { after := 0, signal := .run p } :: rest else rest } := by
  simp only [takeUp, remaining, engineEnabled_elapse]

/-- The item `run` runs the row of the engine's turn, whether or not its step is enabled. -/
theorem step_run {d : Duration} {p : Requester} {rest : List Item}
    (h : s.trace = { after := d, signal := .run p } :: rest) (ht : ¬ TimerDue s d) :
    step s = exec (engineRow s.ctx p) (takeUp ⟨d, .run p⟩ rest s) :=
  step_instr h ht (by simp only [fetchInstr, fetchWord, decode, ctx_takeUp, Except.toOption])

end

/-- Settles O5: the item runs the engine's turn, in the state with run kept or, with no step enabled, dropped. -/
theorem runTakesEnabledSteps : Obligations.RunTakesEnabledSteps := by
  unfold Obligations.RunTakesEnabledSteps
  refine fun s d p rest h ht => ⟨fun he => ?_, fun he => ?_⟩
  · rw [step_run h ht, takeUp_run, if_pos he]
  · have hn : ¬ EngineEnabled (takeUp ⟨d, .run p⟩ rest s) := mt (engineEnabled_takeUp _ _).1 he
    have hx := exec_engineRow_of_not_enabled hn p
    rw [ctx_takeUp] at hx
    rw [step_run h ht, hx, takeUp_run, if_neg he]

end Sys2Proof.Machine

namespace Sys2Proof.Machine

open Sys2Proof.Safety

/-! ### What the check of a complete frame answers -/

section
variable {f : List Byte} {cken : Bool}

/-- The parse succeeds exactly on hexadecimal digits (41 R151, R153). -/
theorem shiftInHex_isSome {w : Nat} (acc : BitVec w) (cs : List Byte) :
    (shiftInHex acc cs).isSome = cs.all isHex := by
  induction cs generalizing acc with
  | nil => rfl
  | cons c cs ih => cases h : hexval c <;> simp [shiftInHex, isHex, h, ih]

theorem payload_isSome (f : List Byte) : (payload f).isSome = payloadOk f := shiftInHex_isSome 0 _

theorem ckRx_isSome (f : List Byte) : (ckRx f).isSome = ckFieldOk f := shiftInHex_isSome 0 _

/-- The payload is checked first (40 R125). -/
theorem checkFrame_of_payloadOk_false (hp : payloadOk f = false) :
    checkFrame f cken = .err .malformedPayload := by
  have hv : payload f = none := by simpa [hp] using payload_isSome f
  simp [checkFrame, hv]

/-- With a good payload the enabled checksum decides (40 R125, 42 R168). -/
theorem checkFrame_of_checksum_bad (hp : payloadOk f = true) (hk : cken = true)
    (hc : ckFieldOk f = false ∨ ckCalc f ≠ ckRx f) : checkFrame f cken = .err .checksumMismatch := by
  obtain ⟨v, hv⟩ := Option.isSome_iff_exists.1 ((payload_isSome f).trans hp)
  cases hr : ckRx f with
  | none => simp [checkFrame, hv, hk, hr]
  | some c =>
    have hfield : ckFieldOk f = true := by simp [← ckRx_isSome, hr]
    have hne : ckCalc f ≠ some c := hr ▸ hc.resolve_left (by simp [hfield])
    simp [checkFrame, hv, hk, hr, hne]

/-- A frame that passes the enabled checks gives its payload (40 R125, 42 R169). -/
theorem checkFrame_of_passes {v : TagValue} (hv : payload f = some v)
    (hc : cken = false ∨ (ckFieldOk f = true ∧ ckCalc f = ckRx f)) : checkFrame f cken = .ok v := by
  cases hk : cken with
  | false => simp [checkFrame, hv]
  | true =>
    obtain ⟨hfield, hck⟩ := hc.resolve_left (by simp [hk])
    obtain ⟨c, hr⟩ := Option.isSome_iff_exists.1 ((ckRx_isSome f).trans hfield)
    simp [checkFrame, hv, hr, hck]

/-- On a complete frame the reference function of 40 R132 is the check, whatever follows the frame. -/
theorem decodeRef_append {d : DataSize} {bs : List Byte} (hf : f = Config.startMarker :: bs)
    (hlen : f.length = frameLen d) (r : List Byte) : decodeRef (f ++ r) d cken = some (checkFrame f cken) := by
  have htake : (f ++ r).take (frameLen d) = f := by rw [← hlen, List.take_left]
  have hmarker : f ++ r = Config.startMarker :: (bs ++ r) := by rw [hf, List.cons_append]
  have hlong : ¬ (f ++ r).length < frameLen d := by simp [hlen]
  rw [hmarker] at htake hlong ⊢
  simp only [decodeRef, ne_eq, not_true_eq_false, if_false, hlong, htake]
  split_ifs with hp hfield hck
  · rw [checkFrame_of_payloadOk_false hp]
  · rw [checkFrame_of_checksum_bad (by simpa using hp) hfield.1 (.inl hfield.2)]
  · rw [checkFrame_of_checksum_bad (by simpa using hp) hck.1 (.inr hck.2)]
  · obtain ⟨v, hv⟩ := Option.isSome_iff_exists.1 ((payload_isSome f).trans (by simpa using hp))
    have hc : cken = false ∨ (ckFieldOk f = true ∧ ckCalc f = ckRx f) := by
      cases cken <;> simp_all
    rw [checkFrame_of_passes hv hc, hv, Option.map_some]

/-- The check reads no byte behind frame position 12 (41 R152, R154, R156). -/
theorem checkFrame_append (hf : 13 ≤ f.length) (g : List Byte) : checkFrame (f ++ g) cken = checkFrame f cken := by
  have hfield {i n : Nat} (h : i + n ≤ 13) : ((f ++ g).drop i).take n = (f.drop i).take n := by
    rw [List.drop_append_of_le_length (by omega), List.take_append_of_le_length (by simp; omega)]
  have hp : payload (f ++ g) = payload f := congrArg (shiftInHex 0) (hfield (by decide))
  have hr : ckRx (f ++ g) = ckRx f := congrArg (shiftInHex 0) (hfield (by decide))
  have hchunk {j : Nat} (hj : j < 5) : chunk (f ++ g) j = chunk f j := congrArg (shiftInHex 0) (hfield (by omega))
  have hc : ckCalc (f ++ g) = ckCalc f := by simp [ckCalc, hchunk]
  simp only [checkFrame, hp, hr, hc]

end

/-! ### The end of a frame -/

/-- What a result leaves of the bytes waiting: an error of the frame discards them (40 R125, 60 R236). -/
def bytesLeft (res : DecRes) (q : List Byte) : List Byte :=
  match res with
  | .ok _ => q
  | .err _ => []

/-- The end of validate(): the answer of the check is delivered, and an error flushes (40 R125). -/
theorem finishFrame_eq_delivered (s : State) :
    finishFrame s = delivered s.owner (checkFrame s.fb.toList s.cken)
      { s with rxq := bytesLeft (checkFrame s.fb.toList s.cken) s.rxq } := by
  unfold finishFrame
  split
  next v hv => rw [hv]; exact complete_eq_delivered (.ok v) s
  next k hk =>
    have hne : k ≠ .streamFault := fun he => checkFrame_ne_streamFault _ _ (he ▸ hk)
    rw [hk, raiseErr_eq_delivered, if_neg hne]
    rfl

end Sys2Proof.Machine

namespace Sys2Proof.Machine

open Sys2Proof.Safety

/-! ### The DATA step and its rows -/

section
variable {s : State} {b : Byte} {r : List Byte} {i : Instr}

/-- The DATA row, and the byte rows where their byte is the next of their class, are the DATA step (log 7). -/
theorem exec_eq_dataStep (hs : s.fstate = .collect) (hr : s.rxq = b :: r)
    (hi : i = .data ∨ (s.ctx.wantsDigit ∧ ((i, b) ∈ hexRows ∨ (i = .nonhex b ∧ isHex b = false))) ∨
      (s.ctx.ignoresByte ∧ i = .any b)) : exec i s = .next (dataStep s) := by
  have hfront : s.rxq.head? = some b := by rw [hr]; rfl
  obtain rfl | ⟨hw, hrow⟩ | ⟨hw, rfl⟩ := hi
  · rfl
  · have htake : takeDigit b s = dataStep s := if_pos ⟨hs, hw, hfront⟩
    obtain hmem | ⟨rfl, hb⟩ := hrow
    · rw [exec_of_mem_hexRows hmem, htake]
    · show Host.Outcome.next (if isHex b then s else takeDigit b s) = _
      rw [htake, hb]
      rfl
  · exact congrArg _ (if_pos ⟨hs, hw, hfront⟩ : takeAny b s = dataStep s)

theorem dataStep_eq_stored (hs : s.fstate = .collect) (hc : s.chFault = false) (hr : s.rxq = b :: r)
    (hn : s.cnt + 1 < frameLen s.datasize) : dataStep s = stored b r s := by
  rw [dataStep_of_enabled ⟨hs, hc, by omega, by simp [hr]⟩ hr, if_neg (by omega)]

theorem dataStep_eq_finishFrame (hs : s.fstate = .collect) (hc : s.chFault = false) (hr : s.rxq = b :: r)
    (hn : s.cnt + 1 = frameLen s.datasize) : dataStep s = finishFrame (stored b r s) := by
  rw [dataStep_of_enabled ⟨hs, hc, by omega, by simp [hr]⟩ hr, if_pos hn]

/-- The last byte of a frame is not examined (30 R93). -/
theorem ignoresByte_of_last (hn : s.cnt + 1 = frameLen s.datasize) : s.ctx.ignoresByte := by
  refine .inl (show 13 ≤ s.cnt from ?_)
  cases hd : s.datasize <;> simp only [hd, frameLen] at hn <;> omega

end

/-- Settles O32: each of the rows is the DATA step, which stores the byte while the frame stays short. -/
theorem dataStoresByte : Obligations.DataStoresByte := by
  unfold Obligations.DataStoresByte
  intro s b r i hs hc hr hn hi
  rw [exec_eq_dataStep hs hr hi, dataStep_eq_stored hs hc hr hn]

/-- Settles O33: the DATA step stores the last byte and delivers the answer of the check, case by case. -/
theorem lastByteValidates : Obligations.LastByteValidates := by
  unfold Obligations.LastByteValidates
  intro s b r i hs hc hr hn hi t f
  have hrow : exec i s = .next (delivered s.owner (checkFrame f s.cken)
      { t with rxq := bytesLeft (checkFrame f s.cken) r }) := by
    rw [exec_eq_dataStep hs hr (hi.imp_right fun h => .inr ⟨ignoresByte_of_last hn, h⟩),
      dataStep_eq_finishFrame hs hc hr hn, finishFrame_eq_delivered]
  refine ⟨fun hp => ?_, fun hp hk hfield => ?_, fun hp hk _ hck => ?_, fun hp hpass => ?_⟩
  · rw [hrow, checkFrame_of_payloadOk_false hp]; rfl
  · rw [hrow, checkFrame_of_checksum_bad hp hk (.inl hfield)]; rfl
  · rw [hrow, checkFrame_of_checksum_bad hp hk (.inr hck)]; rfl
  · obtain ⟨v, hv⟩ := Option.isSome_iff_exists.1 ((payload_isSome f).trans hp)
    refine ⟨v, hv, ?_⟩
    rw [hrow, checkFrame_of_passes hv hpass]; rfl

/-! ### A whole frame, with every field -/

/-- The frame buffer with its first bytes written. -/
def overwrite (bs : List Byte) (fb : Vector Byte 16) : Vector Byte 16 :=
  Vector.ofFn fun i => bs.getD i fb[i]

/-- The state in which the first `k` bytes of RXQ, a frame's, have been taken (40 R122, R124): all of what `Taken` says,
with every other field as it was. -/
def taken (k : Nat) (s : State) : State :=
  { s with
    rxq := s.rxq.drop k, fb := overwrite (s.rxq.take k) s.fb, cnt := k, tmr := 0, fstate := .collect }

theorem toList_overwrite {bs : List Byte} (h : bs.length ≤ 16) (fb : Vector Byte 16) :
    (overwrite bs fb).toList = bs ++ fb.toList.drop bs.length := by
  refine List.ext_getElem (by simp; omega) fun i hi _ => ?_
  simp only [Vector.length_toList] at hi
  by_cases hb : i < bs.length
  · simp [overwrite, hb]
  · simp [overwrite, hb, List.getElem_append_right (Nat.le_of_not_lt hb), Nat.add_sub_cancel' (Nat.le_of_not_lt hb)]

/-- Writing the byte behind the written ones is to have written it too. -/
theorem overwrite_setIfInBounds {q r : List Byte} {k : Nat} {b : Byte} (hq : q.drop k = b :: r)
    (fb : Vector Byte 16) : (overwrite (q.take k) fb).setIfInBounds k b = overwrite (q.take (k + 1)) fb := by
  have hb : q[k]? = some b := by rw [← List.head?_drop, hq]; rfl
  refine Vector.ext fun i hi => ?_
  rw [Vector.getElem_setIfInBounds hi]
  split
  next h => subst h; simp [overwrite, hb]
  next h =>
    have hle : i ≤ k ↔ i < k := by omega
    simp [overwrite, List.getElem?_take, hle]

section
variable {s : State} {k : Nat}

theorem startStep_eq_taken {r : List Byte} (hs : s.fstate = .start) (hc : s.chFault = false)
    (hr : s.rxq = Config.startMarker :: r) : startStep s = taken 1 s := by
  have hfb : s.fb.set 0 Config.startMarker = overwrite [Config.startMarker] s.fb := by
    refine Vector.ext fun i hi => ?_
    cases i <;> simp [overwrite]
  simp [startStep, taken, hr, hs, hc, hfb]

/-- With the bytes of the frame waiting, the DATA step takes the next one, and ends the frame if it is the last. -/
theorem dataStep_taken (hc : s.chFault = false) (hk : k < frameLen s.datasize)
    (hlen : frameLen s.datasize ≤ s.rxq.length) :
    dataStep (taken k s) =
      if k + 1 = frameLen s.datasize then finishFrame (taken (k + 1) s) else taken (k + 1) s := by
  obtain ⟨b, r, hr⟩ : ∃ b r, s.rxq.drop k = b :: r :=
    List.exists_cons_of_length_pos (by rw [List.length_drop]; omega)
  have hstored : stored b r (taken k s) = taken (k + 1) s := by
    simp [taken, overwrite_setIfInBounds hr, List.drop_add_one_eq_tail_drop, hr]
  rw [dataStep_of_enabled (s := taken k s) ⟨rfl, hc, hk, by simp [taken, hr]⟩ hr, hstored]
  rfl

/-- The DATA steps that are left of a waiting frame take all of it and end it. -/
theorem dataSteps_taken (hc : s.chFault = false) (hlen : frameLen s.datasize ≤ s.rxq.length) :
    ∀ (n k : Nat), k + n + 1 = frameLen s.datasize →
      dataSteps (n + 1) (taken k s) = finishFrame (taken (frameLen s.datasize) s)
  | 0, k, hn => by
    show dataStep (taken k s) = _
    rw [dataStep_taken hc (by omega) hlen, if_pos hn, show k + 1 = frameLen s.datasize from hn]
  | n + 1, k, hn => by
    show dataSteps (n + 1) (dataStep (taken k s)) = _
    rw [dataStep_taken hc (by omega) hlen, if_neg (by omega)]
    exact dataSteps_taken hc hlen n (k + 1) (by omega)

/-- A frame row with its frame waiting takes the frame and ends it (log 8). -/
theorem wholeFrame_eq_finishFrame {f bs r : List Byte} (hf : f = Config.startMarker :: bs)
    (hlen : f.length = frameLen s.datasize) (hs : s.fstate = .start) (hc : s.chFault = false)
    (hr : s.rxq = f ++ r) : wholeFrame s.datasize f s = finishFrame (taken (frameLen s.datasize) s) := by
  have htake : s.rxq.take (frameLen s.datasize) = f := by rw [hr, ← hlen, List.take_left]
  have hwait : frameLen s.datasize ≤ s.rxq.length := by rw [hr, List.length_append]; omega
  have hone := one_lt_frameLen s.datasize
  rw [wholeFrame, if_pos ⟨hs, hc, rfl, htake⟩,
    startStep_eq_taken hs hc (hr.trans (by rw [hf, List.cons_append])),
    show frameLen s.datasize - 1 = frameLen s.datasize - 2 + 1 by omega]
  exact dataSteps_taken hc hwait _ 1 (by omega)

/-- A frame row gives the result of the reference function of 40 R132 on the bytes waiting, discards what follows the
frame exactly on an error, and leaves the frame in FB. -/
theorem wholeFrame_meets_reference {d : DataSize} {f bs r : List Byte} (hf : f = Config.startMarker :: bs)
    (hlen : f.length = frameLen d) (hs : s.fstate = .start) (hc : s.chFault = false) (hd : s.datasize = d)
    (hr : s.rxq = f ++ r) :
    ∃ res fb, decodeRef s.rxq d s.cken = some res ∧ fb.toList = f ++ s.fb.toList.drop (frameLen d) ∧
      wholeFrame d f s = delivered s.owner res
        { s with rxq := bytesLeft res r, fb := fb, cnt := frameLen d, tmr := 0 } := by
  subst hd
  have htake : s.rxq.take (frameLen s.datasize) = f := by rw [hr, ← hlen, List.take_left]
  have hdrop : s.rxq.drop (frameLen s.datasize) = r := by rw [hr, ← hlen, List.drop_left]
  have hfb : (overwrite f s.fb).toList = f ++ s.fb.toList.drop (frameLen s.datasize) := by
    rw [toList_overwrite (hlen ▸ frameLen_le _), hlen]
  have hcheck : checkFrame (overwrite f s.fb).toList s.cken = checkFrame f s.cken := by
    rw [hfb]
    exact checkFrame_append (by rw [hlen]; cases s.datasize <;> decide) _
  refine ⟨checkFrame f s.cken, overwrite f s.fb, hr ▸ decodeRef_append hf hlen r, hfb, ?_⟩
  rw [wholeFrame_eq_finishFrame hf hlen hs hc hr, taken, htake, hdrop, finishFrame_eq_delivered]
  simp only [hcheck]
  cases s.owner <;> rfl

end

/-- Settles O36: FRAME_A is the frame row of 16 bytes, which fill FB. -/
theorem frameAMeetsReference : Obligations.FrameAMeetsReference := by
  unfold Obligations.FrameAMeetsReference
  intro p0 p1 p2 p3 p4 p5 p6 p7 p8 p9 k0 k1 t0 t1 t2 s r f hs hc hd hr
  obtain ⟨res, fb, href, hfb, hframe⟩ := wholeFrame_meets_reference (f := f) rfl rfl hs hc hd hr
  have hfull : s.fb.toList.drop (frameLen .d16) = [] := List.drop_eq_nil_of_le (by simp [frameLen])
  rw [hfull, List.append_nil] at hfb
  refine ⟨res, fb, href, hfb, congrArg _ (hframe.trans ?_)⟩
  cases res <;> rfl

/-- Settles O37: FRAME_B is the frame row of 14 bytes, behind which FB is kept. -/
theorem frameBMeetsReference : Obligations.FrameBMeetsReference := by
  unfold Obligations.FrameBMeetsReference
  intro p0 p1 p2 p3 p4 p5 p6 p7 p8 p9 k0 k1 t0 s r f hs hc hd hr
  obtain ⟨res, fb, href, hfb, hframe⟩ := wholeFrame_meets_reference (f := f) rfl rfl hs hc hd hr
  refine ⟨res, fb, href, hfb, congrArg _ (hframe.trans ?_)⟩
  cases res <;> rfl

end Sys2Proof.Machine

namespace Sys2Proof.Machine

open Sys2Proof.Safety

/-! ### A frame by single turns of the engine -/

theorem run_succ_of_step {s t : State} (h : step s = .next t) (n : Nat) :
    Host.Core.run core (n + 1) s = Host.Core.run core n t := by
  have hcore : core.step s = .next t := h
  simp only [Host.Core.run, hcore]

/-- A schedule that begins with `n` turns of the engine, no time between them. -/
def turns (p : Requester) (n : Nat) (rest : List Item) : List Item :=
  List.replicate n { after := 0, signal := .engine p } ++ rest

section
variable {s : State} {p : Requester} {rest : List Item}

/-- With a byte waiting no frame time runs out (40 R126). -/
theorem not_timerDue_of_rxq_ne_nil (h : s.rxq ≠ []) (d : Duration) : ¬ TimerDue s d :=
  fun hd => h hd.1.2.2.2

/-- A turn of the engine for which no time passes runs the engine's row, with the turn gone from the schedule. -/
theorem step_engine (htr : s.trace = { after := 0, signal := .engine p } :: rest) (hr : s.rxq ≠ []) :
    step s = exec (engineRow s.ctx p) { s with trace := rest } := by
  rw [step_instr htr (not_timerDue_of_rxq_ne_nil hr 0) (i := engineRow s.ctx p)
    (by simp only [fetchInstr, fetchWord, decode, ctx_takeUp, Except.toOption]), takeUp, elapse_zero]
  rfl

/-- In F_START on a channel that has not failed the turn is the START step (30 R95). -/
theorem step_engine_start (hs : s.fstate = .start) (hc : s.chFault = false)
    (htr : s.trace = { after := 0, signal := .engine p } :: rest) (hr : s.rxq ≠ []) :
    step s = .next (startStep { s with trace := rest }) := by
  rw [step_engine htr hr, show engineRow s.ctx p = .start by simp [engineRow, hs, hc]]
  rfl

/-- In F_COLLECT on a channel that has not failed the turn is the DATA step (30 R95). -/
theorem step_engine_data (hs : s.fstate = .collect) (hc : s.chFault = false)
    (htr : s.trace = { after := 0, signal := .engine p } :: rest) (hr : s.rxq ≠ []) :
    step s = .next (dataStep { s with trace := rest }) := by
  rw [step_engine htr hr, show engineRow s.ctx p = .data by simp [engineRow, hs, hc]]
  rfl

/-- The turns that are left of a waiting frame are its DATA steps. -/
theorem run_turns_taken (hc : s.chFault = false) (hlen : frameLen s.datasize ≤ s.rxq.length) :
    ∀ (n k : Nat), k + n = frameLen s.datasize →
      Host.Core.run core n (taken k { s with trace := turns p n rest }) =
        .next (dataSteps n (taken k { s with trace := rest }))
  | 0, _, _ => rfl
  | n + 1, k, hn => by
    have hr : s.rxq.drop k ≠ [] := by simp; omega
    have hk : k < frameLen s.datasize := by omega
    have hdata (tr : List Item) := dataStep_taken (s := { s with trace := tr }) hc hk hlen
    have hturn : step (taken k { s with trace := turns p (n + 1) rest }) =
        .next (dataStep (taken k { s with trace := turns p n rest })) := step_engine_data rfl hc rfl hr
    rw [hdata] at hturn
    refine (run_succ_of_step hturn n).trans ?_
    show _ = Host.Outcome.next (dataSteps n (dataStep (taken k { s with trace := rest })))
    rw [hdata]
    by_cases hlast : k + 1 = frameLen s.datasize
    · obtain rfl : n = 0 := by omega
      rfl
    · simp only [hlast, if_false]
      exact run_turns_taken hc hlen n (k + 1) (by omega)

/-- The bytes of a frame are the word of a frame row, which takes that frame (30 R90). -/
theorem exists_frameRow {d : DataSize} {bs : List Byte} (h : bs.length + 1 = frameLen d) :
    ∃ i, decodeFrame d (Config.startMarker :: bs) = .ok i ∧
      ∀ s, exec i s = .next (wholeFrame d (Config.startMarker :: bs) s) := by
  match d, bs, h with
  | .d14, [_, _, _, _, _, _, _, _, _, _, _, _, _], _ => exact ⟨_, rfl, fun _ => rfl⟩
  | .d16, [_, _, _, _, _, _, _, _, _, _, _, _, _, _, _], _ => exact ⟨_, rfl, fun _ => rfl⟩

theorem take_frameLen {bs r : List Byte} {d : DataSize} {q : List Byte} (hlen : bs.length + 1 = frameLen d)
    (hr : q = Config.startMarker :: bs ++ r) : q.take (frameLen d) = Config.startMarker :: bs := by
  rw [hr, ← hlen]
  exact List.take_left (l₁ := Config.startMarker :: bs)

/-- An item for the waiting frame, for which no time passes, takes the whole frame. -/
theorem step_takeFrame {bs r : List Byte} (hlen : bs.length + 1 = frameLen s.datasize)
    (hr : s.rxq = Config.startMarker :: bs ++ r)
    (htr : s.trace = { after := 0, signal := .takeFrame } :: rest) :
    step s = .next (wholeFrame s.datasize (Config.startMarker :: bs) { s with trace := rest }) := by
  obtain ⟨i, hi, hexec⟩ := exists_frameRow hlen
  have htake : s.rxq.take (frameLen s.datasize) = Config.startMarker :: bs := take_frameLen hlen hr
  rw [step_instr htr (not_timerDue_of_rxq_ne_nil (by simp [hr]) 0) (i := i)
    (by simp [fetchInstr, fetchWord, decode, htake, hi, Except.toOption]), takeUp, elapse_zero]
  exact hexec _

end

/-- Settles O38: the turns are START and then the DATA steps of the waiting frame, and so is the frame item. -/
theorem frameItemEqualsEngineTurns : Obligations.FrameItemEqualsEngineTurns := by
  unfold Obligations.FrameItemEqualsEngineTurns
  intro s p rest bs r hs hc hr hlen
  have hwait : frameLen s.datasize ≤ s.rxq.length := by simp [hr]; omega
  have htake : s.rxq.take (frameLen s.datasize) = Config.startMarker :: bs := take_frameLen hlen hr
  have hstart (tr : List Item) : startStep { s with trace := tr } = taken 1 { s with trace := tr } :=
    startStep_eq_taken hs hc hr
  have hitem : step { s with trace := { after := 0, signal := .takeFrame } :: rest } =
      .next (wholeFrame s.datasize (Config.startMarker :: bs) { s with trace := rest }) :=
    step_takeFrame hlen hr rfl
  have hturn : step { s with trace := turns p (bs.length + 1) rest } =
      .next (startStep { s with trace := turns p bs.length rest }) :=
    step_engine_start hs hc rfl (by simp [hr])
  rw [hitem, wholeFrame, if_pos ⟨hs, hc, rfl, htake⟩, hstart, ← hlen]
  rw [hstart] at hturn
  exact (run_succ_of_step hturn bs.length).trans (run_turns_taken hc hwait _ 1 (by omega))

end Sys2Proof.Machine

namespace Sys2Proof.Machine

open Sys2Proof.Safety

/-! ### Blocked operations -/

section
variable {s t : State}

/-- Under the invariant an operation waits exactly when no byte waits and the channel has not failed (40 R129). -/
theorem waiting_iff (h : BlockInv s) :
    Waiting s ↔ s.fstate ≠ .idle ∧ s.rxq = [] ∧ s.chFault = false := by
  cases hf : s.fstate with
  | idle => simp [Waiting, hf]
  | start =>
    simp [Waiting, Quiescent, EngineEnabled, GrantEnabled, StartEnabled, DataEnabled, FaultEnabled, hf]
    tauto
  | collect =>
    have hn : s.cnt < frameLen s.datasize := (h.inFrame hf).2
    simp [Waiting, Quiescent, EngineEnabled, GrantEnabled, StartEnabled, DataEnabled, FaultEnabled, hf, hn]
    tauto

/-- The two situations of 40 R129. -/
theorem blocked_iff (h : BlockInv s) :
    Blocked s ↔
      (s.fstate = .start ∧ s.rxq = [] ∧ s.chFault = false) ∨
      (s.fstate = .collect ∧ s.rxq = [] ∧ s.cnt < frameLen s.datasize ∧ s.chFault = false ∧ s.tmr < s.tframe) := by
  rw [Blocked, waiting_iff h]
  cases hf : s.fstate with
  | idle => simp
  | start => simp [TmoReady, hf]
  | collect =>
    have hn : s.cnt < frameLen s.datasize := (h.inFrame hf).2
    simp [TmoReady, hf, hn]
    tauto

/-- A short frame whose time has run out waits: TMO is the timer's event, not an engine step (00 R15). -/
theorem waiting_of_tmoReady (h : BlockInv s) (hr : TmoReady s) : Waiting s := by
  obtain ⟨hf, hc, -, hq⟩ := hr
  exact (waiting_iff h).2 ⟨by simp [hf], hq, hc⟩

/-- The operation in flight, its channel and its timer are the same in both states. -/
structure SameOperation (s t : State) : Prop where
  fstate : t.fstate = s.fstate
  owner : t.owner = s.owner
  cnt : t.cnt = s.cnt
  fb : t.fb = s.fb
  rxq : t.rxq = s.rxq
  chFault : t.chFault = s.chFault
  datasize : t.datasize = s.datasize
  tmr : t.tmr = s.tmr
  tframe : t.tframe = s.tframe

theorem SameOperation.refl (s : State) : SameOperation s s := ⟨rfl, rfl, rfl, rfl, rfl, rfl, rfl, rfl, rfl⟩

theorem SameOperation.blocked (h : SameOperation s t) (hs : BlockInv s) (ht : BlockInv t) (hb : Blocked s) :
    Blocked t := by
  rw [blocked_iff ht, h.fstate, h.rxq, h.chFault, h.cnt, h.datasize, h.tmr, h.tframe]
  exact (blocked_iff hs).1 hb

/-- Only an event of the channel or the timer touches an operation that waits. -/
theorem Effect.sameOperation_of_waiting {i : Instr} (h : Effect s i t) (hw : Waiting s)
    (hrx : ∀ b, i ≠ .rx b) (htmo0 : i ≠ .tmo0) (htmo : i ≠ .tmo) (hsfault : i ≠ .sfault) : SameOperation s t := by
  obtain ⟨hbusy, hq⟩ := hw
  simp only [Quiescent, EngineEnabled, not_or] at hq
  obtain ⟨hgrant, hstart, hdata, hfault⟩ := hq
  cases h with
  | unchanged => exact .refl s
  | start => rw [startStep_of_not_enabled hstart]; exact .refl s
  | data => rw [dataStep_of_not_enabled hdata]; exact .refl s
  | grant p => rw [grantStep_of_not_enabled hgrant]; exact .refl s
  | frame _ hs => exact absurd hs hstart
  | fault hs => exact absurd hs hfault
  | cfgwr hs => exact absurd hs hbusy
  | rx b => exact absurd rfl (hrx b)
  | tmo0 => exact absurd rfl htmo0
  | tmo => exact absurd rfl htmo
  | sfault => exact absurd rfl hsfault
  | gettag | install | uninstall => exact ⟨rfl, rfl, rfl, rfl, rfl, rfl, rfl, rfl, rfl⟩
  | rise | fall | readtag | clrbuf => constructor <;> simp

end

/-- Settles O52: under the invariant waiting means no byte and no failure, and what does not touch the operation leaves
it blocked. -/
theorem blockedOnlyInTwoSituations : Obligations.BlockedOnlyInTwoSituations := by
  unfold Obligations.BlockedOnlyInTwoSituations
  refine fun s h => ⟨blocked_iff h, ⟨fun hw => ?_, fun hb => ?_⟩, fun hb i t he hrx htmo0 htmo hsfault => ?_⟩
  · by_cases hd : TmoReady s ∧ s.tframe ≤ s.tmr
    · exact .inr hd
    · exact .inl ⟨hw, hd⟩
  · exact hb.elim And.left fun hd => waiting_of_tmoReady h hd.1
  · have hsame := (effect_of_exec_eq he).sameOperation_of_waiting hb.1 hrx htmo0 htmo hsfault
    exact ⟨hsame.blocked h (h.exec he) hb, hsame.fstate, hsame.owner, hsame.cnt, hsame.fb⟩

/-! ### The end of an operation, and the events of the channel and the timer -/

/-- Settles O57: complete is delivery to the owner, which is written out per owner. -/
theorem completionReachesOwner : Obligations.CompletionReachesOwner := by
  unfold Obligations.CompletionReachesOwner
  refine fun s v k => ⟨fun ho => ?_, fun ho => ?_, fun res => (complete_eq_delivered res s).symm⟩
  · simp only [complete_eq_delivered, ho]
    exact ⟨rfl, rfl⟩
  · simp only [complete_eq_delivered, ho]
    exact ⟨rfl, rfl⟩

/-- Settles O22: the arm of RX. -/
theorem byteArrivesAtTheEnd : Obligations.ByteArrivesAtTheEnd := by
  unfold Obligations.ByteArrivesAtTheEnd
  exact fun _ _ => rfl

/-- Settles O23: a flag that is set already is set to its own value. -/
theorem channelFailureIsSticky : Obligations.ChannelFailureIsSticky := by
  unfold Obligations.ChannelFailureIsSticky
  refine fun s => ⟨rfl, fun hc => ?_⟩
  show Host.Outcome.next { s with chFault := true } = .next s
  rw [← hc]

section
variable {s : State}

theorem exec_tmo0_of_enabled (h : Tmo0Enabled s) : exec .tmo0 s = .next (complete (.ok 0) s) :=
  congrArg _ (if_pos h)

theorem exec_tmo0_of_not_enabled (h : ¬ Tmo0Enabled s) : exec .tmo0 s = .next s :=
  congrArg _ (if_neg h)

/-- The timer's event ends a short frame; no byte waits, so its flush discards none (40 R126). -/
theorem exec_tmo_of_enabled (hr : TmoReady s) (ht : s.tframe ≤ s.tmr) :
    exec .tmo s = .next (delivered s.owner (.err .incompleteFrame) { s with rxq := [] }) := by
  show Host.Outcome.next (if TmoReady s ∧ s.tframe ≤ s.tmr then raiseErr .incompleteFrame s else s) = _
  rw [if_pos ⟨hr, ht⟩, raiseErr_eq_delivered, if_neg nofun]

theorem exec_tmo_of_not_enabled (h : ¬ (TmoReady s ∧ s.tframe ≤ s.tmr)) : exec .tmo s = .next s :=
  congrArg _ (if_neg h)

theorem step_of_timerDue {it : Item} {rest : List Item} (htr : s.trace = it :: rest) (hd : TimerDue s it.after) :
    step s = exec .tmo (expire it rest s) := by
  simp [step, htr, hd]

end

/-- Settles O24: the event completes the operation, and each alternative contradicts its precondition. -/
theorem zeroByteTimeoutGivesZero : Obligations.ZeroByteTimeoutGivesZero := by
  unfold Obligations.ZeroByteTimeoutGivesZero
  refine fun s => ⟨fun hn hs hc hr => ?_, fun hor => exec_tmo0_of_not_enabled fun ⟨hn, hs, hc, hr⟩ => ?_⟩
  · rw [exec_tmo0_of_enabled ⟨hn, hs, hc, hr⟩, complete_eq_delivered]
  · simp [hn, hs, hc, hr] at hor

/-- Settles O25: the event ends the frame, and each alternative contradicts its precondition. -/
theorem frameTimeoutGivesIncompleteFrame : Obligations.FrameTimeoutGivesIncompleteFrame := by
  unfold Obligations.FrameTimeoutGivesIncompleteFrame
  refine fun s => ⟨fun hs hc hn hr ht => ?_,
    fun hor => exec_tmo_of_not_enabled fun ⟨⟨hs, hc, hn, hr⟩, ht⟩ => ?_⟩
  · rw [exec_tmo_of_enabled ⟨hs, hc, hn, hr⟩ ht, ← hr]
  · simp [hs, hc, hr, Nat.not_le.2 hn, Nat.not_lt.2 ht] at hor

/-- Settles O4: the step is TMO at the moment the frame time runs out, where it is enabled. -/
theorem overdueTimerGoesFirst : Obligations.OverdueTimerGoesFirst := by
  unfold Obligations.OverdueTimerGoesFirst
  intro s it rest htr hd
  rw [step_of_timerDue htr hd, exec_tmo_of_enabled (s := expire it rest s) hd.1 (le_max_right _ _)]
  rfl

/-- Settles O31: the START step, which STX names for the marker, stores the marker or raises BadStartMarker. -/
theorem startTakesFirstByte : Obligations.StartTakesFirstByte := by
  unfold Obligations.StartTakesFirstByte
  refine fun s b r hs hc hr => ⟨?_, fun hb => ?_⟩
  · rintro rfl i hi
    have hstart : startStep s =
        { s with rxq := r, fb := s.fb.set 0 0x02#8, cnt := 1, tmr := 0, fstate := .collect } := by
      simp [startStep, hs, hc, hr]
    obtain rfl | rfl := hi
    · exact congrArg _ hstart
    · exact congrArg _ ((if_pos ⟨hs, by rw [hr]; rfl⟩ : takeStx s = startStep s).trans hstart)
  · have hstart : startStep s = raiseErr .badStartMarker { s with rxq := r } := by
      simp [startStep, hs, hc, hr, hb]
    refine congrArg _ (hstart.trans ?_)
    rw [raiseErr_eq_delivered, if_neg nofun]

/-- Settles O34: FAULT raises StreamFault, which does not flush; the other steps want a channel that has not failed. -/
theorem channelFaultEndsOperation : Obligations.ChannelFaultEndsOperation := by
  unfold Obligations.ChannelFaultEndsOperation
  refine fun s hc => ⟨fun hs => ?_, by simp [hc], by simp [hc], by simp [hc], by simp [hc]⟩
  refine congrArg _ ((if_pos ⟨hs, hc⟩ : faultStep s = raiseErr .streamFault s).trans ?_)
  rw [raiseErr_eq_delivered, if_pos rfl]

end Sys2Proof.Machine

namespace Sys2Proof.Machine

/-! ### The base-16 value of a list of digits -/

/-- The number that the digits write in base 16, the first most significant (41 R153). -/
def base16 (ds : List (BitVec 4)) : ℕ := Nat.ofDigits 16 (ds.map BitVec.toNat).reverse

section
variable {ds : List (BitVec 4)}

theorem base16_cons (d : BitVec 4) (ds : List (BitVec 4)) :
    base16 (d :: ds) = d.toNat * 16 ^ ds.length + base16 ds := by
  simp [base16, Nat.ofDigits_append]
  ring

theorem base16_pair (x y : BitVec 4) : base16 [x, y] = x.toNat * 16 + y.toNat := by
  rw [base16_cons, base16]
  simp

/-- Each digit is below the base. -/
theorem lt_of_mem_digits (n : ℕ) (h : n ∈ (ds.map BitVec.toNat).reverse) : n < 16 := by
  obtain ⟨d, -, rfl⟩ := List.mem_map.1 (List.mem_reverse.1 h)
  exact d.isLt

theorem base16_lt (ds : List (BitVec 4)) : base16 ds < 16 ^ ds.length := by
  simpa [base16] using Nat.ofDigits_lt_base_pow_length (by decide) (lt_of_mem_digits (ds := ds))

/-- Consecutive digits stand inside the value: the quotient drops the digits behind them, the remainder those before. -/
theorem base16_take_drop {i n : ℕ} (h : i + n ≤ ds.length) :
    base16 ((ds.drop i).take n) = base16 ds / 16 ^ (ds.length - (i + n)) % 16 ^ n := by
  have hrev : (((ds.drop i).take n).map BitVec.toNat).reverse =
      ((ds.map BitVec.toNat).reverse.drop (ds.length - (i + n))).take n := by
    rw [List.drop_reverse, List.take_reverse, List.map_take, List.map_drop]
    simp [List.drop_take]
    congr 3 <;> omega
  rw [base16, hrev, base16, Nat.ofDigits_div_pow_eq_ofDigits_drop _ (by decide) _ lt_of_mem_digits,
    Nat.ofDigits_mod_pow_eq_ofDigits_take _ (by decide) _ fun l hl => lt_of_mem_digits l (List.mem_of_mem_drop hl)]

theorem base16_ofFn {n : ℕ} (g : Fin n → BitVec 4) :
    base16 (List.ofFn g) = ∑ i : Fin n, (g i).toNat * 16 ^ (n - 1 - i.val) := by
  induction n with
  | zero => rfl
  | succ n ih =>
    rw [List.ofFn_succ, base16_cons, ih, Fin.sum_univ_succ]
    simp [Nat.sub_sub, Nat.add_comm]

end

/-! ### The shift register computes the base-16 value -/

section
variable {w : ℕ} {cs : List Byte} {ds : List (BitVec 4)}

/-- A digit that enters at the right multiplies by the base and adds (41 R153). -/
theorem toNat_shiftIn (acc : BitVec w) (d : BitVec 4) :
    (acc <<< 4 ||| d.setWidth w).toNat = (acc.toNat * 16 + d.toNat) % 2 ^ w := by
  rw [BitVec.toNat_or, BitVec.toNat_shiftLeft, BitVec.toNat_setWidth, ← Nat.or_mod_two_pow,
    ← Nat.shiftLeft_add_eq_or_of_lt d.isLt, Nat.shiftLeft_eq]

/-- The digits already shifted in stand in front of those that follow. -/
theorem shiftInHex_eq (acc : BitVec w) (h : cs.map hexval = ds.map some) :
    shiftInHex acc cs = some (BitVec.ofNat w (acc.toNat * 16 ^ ds.length + base16 ds)) := by
  induction ds generalizing cs acc with
  | nil =>
    obtain rfl : cs = [] := by simpa using h
    simp [shiftInHex, base16]
  | cons d ds ih =>
    obtain ⟨c, cs, rfl, hc, hcs⟩ := List.map_eq_cons_iff.1 h
    have hvalue : (acc.toNat * 16 + d.toNat) * 16 ^ ds.length + base16 ds =
        acc.toNat * 16 ^ (d :: ds).length + base16 (d :: ds) := by
      rw [base16_cons, List.length_cons]
      ring
    simp only [shiftInHex, hc, ih _ hcs, toNat_shiftIn, ← hvalue]
    congr 1
    apply BitVec.eq_of_toNat_eq
    simp [Nat.add_mod, Nat.mul_mod]

theorem shiftInHex_zero (h : cs.map hexval = ds.map some) :
    shiftInHex (0 : BitVec w) cs = some (BitVec.ofNat w (base16 ds)) := by
  simpa using shiftInHex_eq 0 h

/-- Two characters make a byte, high digit first (41 R155, R156). -/
theorem shiftInHex_pair {c d : Byte} {x y : BitVec 4} (hc : hexval c = some x) (hd : hexval d = some y) :
    ∃ v : Byte, shiftInHex 0 [c, d] = some v ∧ v.toNat = x.toNat * 16 + y.toNat := by
  refine ⟨_, shiftInHex_zero (ds := [x, y]) (by simp [hc, hd]), ?_⟩
  rw [BitVec.toNat_ofNat, base16_pair]
  omega

/-- Characters that are all hexadecimal have digits. -/
theorem exists_digits (h : cs.all isHex = true) : ∃ ds : List (BitVec 4), cs.map hexval = ds.map some := by
  induction cs with
  | nil => exact ⟨[], rfl⟩
  | cons c cs ih =>
    obtain ⟨hc, hcs⟩ : isHex c = true ∧ cs.all isHex = true := by simpa using h
    obtain ⟨d, hd⟩ := Option.isSome_iff_exists.1 hc
    obtain ⟨ds, hds⟩ := ih hcs
    exact ⟨d :: ds, by simp [hd, hds]⟩

/-- The parse reads a character only through its digit value (41 R158). -/
theorem shiftInHex_congr {cs' : List Byte} (acc : BitVec w) (h : cs.map hexval = cs'.map hexval) :
    shiftInHex acc cs = shiftInHex acc cs' := by
  induction cs generalizing cs' acc with
  | nil =>
    obtain rfl : cs' = [] := by simpa using h.symm
    rfl
  | cons c cs ih =>
    obtain ⟨c', cs', rfl, hc, hcs⟩ := List.map_eq_cons_iff.1 h.symm
    cases hd : hexval c with
    | none => simp [shiftInHex, hc, hd]
    | some d => simp only [shiftInHex, hc, hd, ih _ hcs.symm]

end

/-! ### The fields of a frame -/

section
variable {f : List Byte}

theorem payload_eq {ds : List (BitVec 4)} (h : (payloadChars f).map hexval = ds.map some) :
    payload f = some (BitVec.ofNat 40 (base16 ds)) := shiftInHex_zero h

theorem take_two_of_getElem? {i : ℕ} {c d : Byte} (hc : f[i]? = some c) (hd : f[i + 1]? = some d) :
    (f.drop i).take 2 = [c, d] := by
  obtain ⟨hi, rfl⟩ := List.getElem?_eq_some_iff.1 hc
  obtain ⟨hi', rfl⟩ := List.getElem?_eq_some_iff.1 hd
  rw [List.drop_eq_getElem_cons hi, List.drop_eq_getElem_cons hi']
  rfl

/-- The chunks are pairs of payload characters (41 R156). -/
theorem chunkChars_eq {j : ℕ} (hj : j < 5) : chunkChars f j = ((payloadChars f).drop (2 * j)).take 2 := by
  rw [payloadChars, List.drop_take, List.drop_drop, List.take_take, min_eq_left (by omega), chunkChars]

theorem base16_lt_of_ten {ds : List (BitVec 4)} (h : ds.length = 10) : base16 ds < 2 ^ 40 := by
  simpa [h] using base16_lt ds

/-- Byte `4 - j` of ten digits' value is the pair of digits at `2 * j`. -/
theorem extractLsb'_base16 {ds : List (BitVec 4)} {j : ℕ} (h : ds.length = 10) (hj : j < 5) :
    (BitVec.ofNat 40 (base16 ds)).extractLsb' (32 - 8 * j) 8 =
      BitVec.ofNat 8 (base16 ((ds.drop (2 * j)).take 2)) := by
  have hpow : (16 : ℕ) ^ (10 - (2 * j + 2)) = 2 ^ (32 - 8 * j) := by
    rw [show 32 - 8 * j = 4 * (10 - (2 * j + 2)) by omega, pow_mul]
    rfl
  apply BitVec.eq_of_toNat_eq
  rw [BitVec.extractLsb'_toNat, BitVec.toNat_ofNat, BitVec.toNat_ofNat, Nat.mod_eq_of_lt (base16_lt_of_ten h),
    Nat.shiftRight_eq_div_pow, base16_take_drop (by omega), h, hpow, Nat.mod_mod_of_dvd _ (by decide)]

/-- The two digits of chunk `j` are byte `4 - j` of the value (41 R156). -/
theorem chunk_eq_extractLsb' {v : TagValue} {j : ℕ} (hlen : 11 ≤ f.length) (hv : payload f = some v) (hj : j < 5) :
    chunk f j = some (v.extractLsb' (32 - 8 * j) 8) := by
  obtain ⟨ds, hds⟩ := exists_digits (show payloadOk f = true by rw [← payload_isSome, hv]; rfl)
  have hcount : ds.length = 10 := by
    have h := congrArg List.length hds
    simp [payloadChars] at h
    omega
  obtain rfl : BitVec.ofNat 40 (base16 ds) = v := Option.some.inj ((payload_eq hds).symm.trans hv)
  have hchars : (chunkChars f j).map hexval = ((ds.drop (2 * j)).take 2).map some := by
    rw [chunkChars_eq hj, List.map_take, List.map_drop, hds, List.map_take, List.map_drop]
  rw [chunk, shiftInHex_zero hchars, extractLsb'_base16 hcount hj]

end

/-- Settles O11: the parse succeeds exactly on digits, and the shift register computes their base-16 value, which ten
digits keep below 2 ^ 40. -/
theorem payloadIsBase16 : Obligations.PayloadIsBase16 := by
  unfold Obligations.PayloadIsBase16
  refine fun f => ⟨payload_isSome f, List.all_eq_true, fun g hg => ?_⟩
  have hdigits : (payloadChars f).map hexval = (List.ofFn g).map some := by
    refine List.ext_getElem? fun i => ?_
    by_cases hi : i < 10
    · obtain ⟨c, hc, hx⟩ : ∃ c, f[1 + i]? = some c ∧ hexval c = some (g ⟨i, hi⟩) := hg ⟨i, hi⟩
      rw [List.getElem?_map, payloadChars, List.getElem?_take_of_lt hi, List.getElem?_drop, hc, List.getElem?_map,
        List.getElem?_ofFn, dif_pos hi, Option.map_some, hx, Option.map_some]
    · simp [payloadChars, hi]
  refine ⟨_, payload_eq hdigits, ?_⟩
  rw [BitVec.toNat_ofNat, Nat.mod_eq_of_lt (base16_lt_of_ten List.length_ofFn), base16_ofFn]

/-- Settles O12: the parse of the two checksum characters. -/
theorem checksumFieldIsBase16 : Obligations.ChecksumFieldIsBase16 := by
  unfold Obligations.ChecksumFieldIsBase16
  refine fun f => ⟨ckRx_isSome f, List.all_eq_true, fun c d x y hc hd hx hy => ?_⟩
  rw [ckRx, checksumChars, take_two_of_getElem? hc hd]
  exact shiftInHex_pair hx hy

/-- Settles O13: each chunk is a byte of the value and the parse of its own two characters. -/
theorem chunksAreValueBytes : Obligations.ChunksAreValueBytes := by
  unfold Obligations.ChunksAreValueBytes
  intro f v hlen hv
  have hchunk (j : ℕ) (hj : j < 5) := chunk_eq_extractLsb' hlen hv hj
  refine ⟨hchunk, fun j c d x y hj hc hd hx hy => ?_, ?_⟩
  · obtain ⟨u, hu, hval⟩ := shiftInHex_pair hx hy
    have hpair : chunk f j = some u := by
      rw [chunk, chunkChars, take_two_of_getElem? hc (by rwa [Nat.add_right_comm]), hu]
    rw [← Option.some.inj (hpair.symm.trans (hchunk j hj)), hval]
  · simp [ckCalc, hchunk]

/-- Settles O15: every field that the check reads is parsed through its digit values. -/
theorem letterCaseDoesNotMatter : Obligations.LetterCaseDoesNotMatter := by
  unfold Obligations.LetterCaseDoesNotMatter
  intro f g cken h
  have hfield {w : ℕ} (i n : ℕ) :
      shiftInHex (0 : BitVec w) ((f.drop i).take n) = shiftInHex 0 ((g.drop i).take n) :=
    shiftInHex_congr 0 (by simp only [List.map_take, List.map_drop, h])
  have hpayload : payload f = payload g := hfield 1 10
  have hfieldValue : ckRx f = ckRx g := hfield 11 2
  have hchunk (j : ℕ) : chunk f j = chunk g j := hfield (1 + 2 * j) 2
  have hcalc : ckCalc f = ckCalc g := by simp only [ckCalc, hchunk]
  simp only [checkFrame, hpayload, hfieldValue, hcalc]

/-! ### The table of the digits -/

section
variable {c : Byte}

theorem hexval_of_decimal (h : 0x30 ≤ c.toNat ∧ c.toNat ≤ 0x39) :
    (hexval c).map BitVec.toNat = some (c.toNat - 0x30) := by
  simp [hexval, BitVec.le_def, h]
  omega

theorem hexval_of_upper (h : 0x41 ≤ c.toNat ∧ c.toNat ≤ 0x46) :
    (hexval c).map BitVec.toNat = some (c.toNat - 0x41 + 10) := by
  have hdecimal : ¬ c.toNat ≤ 0x39 := by omega
  simp [hexval, BitVec.le_def, h, hdecimal]
  omega

theorem hexval_of_lower (h : 0x61 ≤ c.toNat ∧ c.toNat ≤ 0x66) :
    (hexval c).map BitVec.toNat = some (c.toNat - 0x61 + 10) := by
  have hdecimal : ¬ c.toNat ≤ 0x39 := by omega
  have hupper : ¬ c.toNat ≤ 0x46 := by omega
  simp [hexval, BitVec.le_def, h, hdecimal, hupper]
  omega

/-- A byte in none of the three ranges is no digit. -/
theorem hexval_eq_none (hdecimal : ¬ (0x30 ≤ c.toNat ∧ c.toNat ≤ 0x39))
    (hupper : ¬ (0x41 ≤ c.toNat ∧ c.toNat ≤ 0x46))
    (hlower : ¬ (0x61 ≤ c.toNat ∧ c.toNat ≤ 0x66)) : hexval c = none := by
  simp only [hexval, BitVec.le_def]
  exact (if_neg hdecimal).trans ((if_neg hupper).trans (if_neg hlower))

end

/-- Settles O10: the three ranges of the table, no other byte, and the count over all 256 bytes. -/
theorem hexDigitValues : Obligations.HexDigitValues := by
  unfold Obligations.HexDigitValues
  refine ⟨fun c => ⟨hexval_of_decimal, hexval_of_upper, hexval_of_lower, fun h => ?_⟩, fun _ => rfl, by decide⟩
  exact hexval_eq_none (by omega) (by omega) (by omega)

end Sys2Proof.Machine

namespace Sys2Proof.Machine

open Sys2Proof.Safety

/-! ### The digits of a value -/

/-- The `n` lowest base-16 digits of a bit vector, the most significant first. -/
def hexDigits {w : ℕ} (n : ℕ) (x : BitVec w) : List (BitVec 4) :=
  (List.range n).map fun i => x.extractLsb' (4 * (n - 1 - i)) 4

section
variable {w : ℕ}

theorem hexDigits_succ (n : ℕ) (x : BitVec w) :
    hexDigits (n + 1) x = x.extractLsb' (4 * n) 4 :: hexDigits n x := by
  simp [hexDigits, List.range_succ_eq_map, Function.comp_def, Nat.sub_sub, Nat.add_comm]

/-- The digits of a value write that value. -/
theorem base16_hexDigits (n : ℕ) (x : BitVec w) : base16 (hexDigits n x) = x.toNat % 16 ^ n := by
  induction n with
  | zero => simp [hexDigits, base16, Nat.mod_one]
  | succ n ih =>
    have hlen : (hexDigits n x).length = n := by simp [hexDigits]
    have hdigit : (x.extractLsb' (4 * n) 4).toNat = x.toNat / 16 ^ n % 16 := by
      rw [BitVec.extractLsb'_toNat, Nat.shiftRight_eq_div_pow, pow_mul]
      rfl
    rw [hexDigits_succ, base16_cons, ih, hlen, hdigit, Nat.mod_pow_succ, Nat.add_comm, Nat.mul_comm]

/-- The converter undoes the character of a digit (41 R150). -/
theorem hexval_hexChar : ∀ (upper : Bool) (d : BitVec 4), hexval (hexChar upper d) = some d := by decide

/-- The characters of a value's digits parse to the value (41 R153). -/
theorem shiftInHex_hexChars {n : ℕ} (hw : w ≤ 4 * n) (upper : Bool) (x : BitVec w) :
    shiftInHex 0 ((hexDigits n x).map (hexChar upper)) = some x := by
  have hdigits : ((hexDigits n x).map (hexChar upper)).map hexval = (hexDigits n x).map some := by
    simp [hexval_hexChar]
  have hlt : x.toNat < 16 ^ n := x.isLt.trans_le (by
    rw [show 16 = 2 ^ 4 from rfl, ← pow_mul]
    exact Nat.pow_le_pow_right (by decide) hw)
  rw [shiftInHex_zero hdigits, base16_hexDigits, Nat.mod_eq_of_lt hlt, BitVec.ofNat_toNat, BitVec.setWidth_eq]

end

/-! ### The frame of a tag value -/

section
variable (d : DataSize) (upper : Bool) (v : TagValue)

theorem frameOf_eq_cons : ∃ bs, frameOf d upper v = Config.startMarker :: bs ∧ bs.length + 1 = frameLen d := by
  cases d <;> exact ⟨_, rfl, rfl⟩

theorem payload_frameOf : payload (frameOf d upper v) = some v := by
  have hchars : payloadChars (frameOf d upper v) = (hexDigits 10 v).map (hexChar upper) := rfl
  rw [payload, hchars, shiftInHex_hexChars (by decide)]

theorem ckRx_frameOf : ckRx (frameOf d upper v) = some (xorBytes v) := by
  have hchars : checksumChars (frameOf d upper v) = (hexDigits 2 (xorBytes v)).map (hexChar upper) := rfl
  rw [ckRx, hchars, shiftInHex_hexChars (by decide)]

theorem ckCalc_frameOf : ckCalc (frameOf d upper v) = some (xorBytes v) := by
  have hlen : 11 ≤ (frameOf d upper v).length := by
    obtain ⟨bs, hf, hbs⟩ := frameOf_eq_cons d upper v
    rw [hf, List.length_cons, hbs]
    cases d <;> decide
  obtain ⟨-, -, hck⟩ := chunksAreValueBytes _ v hlen (payload_frameOf d upper v)
  exact hck

/-- The frame of a value passes every check and gives the value (42 R171). -/
theorem checkFrame_frameOf (cken : Bool) : checkFrame (frameOf d upper v) cken = .ok v := by
  have hfield : ckFieldOk (frameOf d upper v) = true := by rw [← ckRx_isSome, ckRx_frameOf]; rfl
  exact checkFrame_of_passes (payload_frameOf d upper v)
    (.inr ⟨hfield, (ckCalc_frameOf d upper v).trans (ckRx_frameOf d upper v).symm⟩)

end

/-- Settles O39: the frame's bytes are the word of a frame row, whose result is the check's answer on the frame: the
value, since both fields parse back to the digits they were written from. -/
theorem roundTripOfEveryTagValue : Obligations.RoundTripOfEveryTagValue := by
  unfold Obligations.RoundTripOfEveryTagValue
  intro v upper s r hs hc hr
  obtain ⟨bs, hf, hbs⟩ := frameOf_eq_cons s.datasize upper v
  have hlen : (frameOf s.datasize upper v).length = frameLen s.datasize := by rw [hf, List.length_cons, hbs]
  obtain ⟨i, hi, hexec⟩ := exists_frameRow hbs
  obtain ⟨res, fb, href, -, hframe⟩ := wholeFrame_meets_reference hf hlen hs hc rfl hr
  have hres : res = .ok v := by
    rw [hr, decodeRef_append hf hlen, checkFrame_frameOf] at href
    exact (Option.some.inj href).symm
  rw [← hf] at hi hexec
  exact ⟨i, fb, hi, by rw [hexec, hframe, hres]; rfl⟩

/-! ### One changed chunk -/

/-- The XOR of five bytes (42 R166). -/
def xorFive (c : ℕ → Byte) : Byte := c 0 ^^^ c 1 ^^^ c 2 ^^^ c 3 ^^^ c 4

theorem ckCalc_eq_xorFive {f : List Byte} {c : ℕ → Byte} (h : ∀ k, k < 5 → chunk f k = some (c k)) :
    ckCalc f = some (xorFive c) := by
  simp [ckCalc, h, xorFive]

/-- XOR cancels the four bytes that agree. -/
theorem xorFive_ne {c d : ℕ → Byte} {j : ℕ} (hj : j < 5) (hne : c j ≠ d j)
    (hsame : ∀ k, k < 5 → k ≠ j → c k = d k) : xorFive c ≠ xorFive d := by
  have hcancel : xorFive c = xorFive d → c j = d j := by
    interval_cases j <;> simp [xorFive, hsame]
  exact mt hcancel hne

/-- A well-formed payload has five chunks (41 R156). -/
theorem exists_chunks {f : List Byte} (hlen : 11 ≤ f.length) (hp : payloadOk f = true) :
    ∃ c : ℕ → Byte, ∀ k, k < 5 → chunk f k = some (c k) := by
  obtain ⟨v, hv⟩ := Option.isSome_iff_exists.1 ((payload_isSome f).trans hp)
  exact ⟨_, fun _ hk => chunk_eq_extractLsb' hlen hv hk⟩

/-- Settles O14: both checksums are the XOR of five bytes, which cancels the four chunks that agree. -/
theorem oneChunkErrorIsDetected : Obligations.OneChunkErrorIsDetected := by
  unfold Obligations.OneChunkErrorIsDetected
  intro f g j hj hlenf hleng hpf hpg hne hsame
  obtain ⟨c, hc⟩ := exists_chunks hlenf hpf
  obtain ⟨d, hd⟩ := exists_chunks hleng hpg
  have hbyte {k : ℕ} (hk : k < 5) : chunk f k = chunk g k ↔ c k = d k := by
    rw [hc k hk, hd k hk, Option.some_inj]
  rw [ckCalc_eq_xorFive hc, ckCalc_eq_xorFive hd, ne_eq, Option.some_inj]
  exact xorFive_ne hj (mt (hbyte hj).2 hne) fun k hk hkj => (hbyte hk).1 (hsame k hk hkj)

/-! ### Reports of a wrong checksum -/

/-- How often a wrong checksum has been reported to the host. -/
def mismatchReports (s : State) : ℕ := s.outs.count (.done (.err .checksumMismatch))

section
variable {s t : State}

theorem mismatchReports_of_outs_eq (h : t.outs = s.outs) : mismatchReports t = mismatchReports s := by
  rw [mismatchReports, h, mismatchReports]

theorem mismatchReports_of_append {o : Output} (h : t.outs = s.outs ++ [o])
    (ho : o ≠ .done (.err .checksumMismatch)) : mismatchReports t = mismatchReports s := by
  rw [mismatchReports, h, List.count_append, List.count_singleton, mismatchReports]
  simp [ho]

theorem mismatchReports_complete {res : DecRes} (h : res ≠ .err .checksumMismatch) (s : State) :
    mismatchReports (complete res s) = mismatchReports s := by
  rw [complete_eq_delivered]
  cases s.owner with
  | none => rfl
  | host => exact mismatchReports_of_append rfl (by simpa using h)
  | mon => exact mismatchReports_of_append rfl nofun

theorem mismatchReports_raiseErr {k : ErrKind} (h : k ≠ .checksumMismatch) (s : State) :
    mismatchReports (raiseErr k s) = mismatchReports s := by
  have hres : DecRes.err k ≠ .err .checksumMismatch := by simpa using h
  cases k with
  | streamFault => exact mismatchReports_complete hres s
  | incompleteFrame | badStartMarker | malformedPayload | checksumMismatch =>
    exact mismatchReports_complete hres (rxFlush s)

/-- With CFG.CKEN = 0 the check does not read the checksum (42 R169). -/
theorem checkFrame_disabled_ne (f : List Byte) : checkFrame f false ≠ .err .checksumMismatch := by
  cases h : payload f <;> simp [checkFrame, h]

theorem mismatchReports_finishFrame (hk : s.cken = false) :
    mismatchReports (finishFrame s) = mismatchReports s := by
  have hcheck : checkFrame s.fb.toList s.cken ≠ .err .checksumMismatch := hk ▸ checkFrame_disabled_ne _
  unfold finishFrame
  split
  next => exact mismatchReports_complete (by simp) s
  next k h => exact mismatchReports_raiseErr (fun he => hcheck (he ▸ h)) s

theorem mismatchReports_startStep (s : State) : mismatchReports (startStep s) = mismatchReports s := by
  obtain he | ⟨r, -, -, -, he⟩ | ⟨b, r, -, -, -, -, he⟩ := startStep_cases s <;> rw [he]
  · rfl
  · exact mismatchReports_raiseErr (by simp) { s with rxq := r }

theorem mismatchReports_dataStep (hk : s.cken = false) : mismatchReports (dataStep s) = mismatchReports s := by
  obtain he | ⟨b, r, -, -, -, -, he⟩ | ⟨b, r, -, -, -, -, he⟩ := dataStep_cases s <;> rw [he]
  · rfl
  · exact mismatchReports_finishFrame (s := stored b r s) hk

theorem mismatchReports_dataSteps :
    ∀ (n : ℕ) {s : State}, s.cken = false → mismatchReports (dataSteps n s) = mismatchReports s
  | 0, _, _ => rfl
  | n + 1, _, hk => (mismatchReports_dataSteps n (by simpa using hk)).trans (mismatchReports_dataStep hk)

theorem mismatchReports_beginDecode (o : Owner) (s : State) :
    mismatchReports (beginDecode o s) = mismatchReports s := by
  unfold beginDecode
  split
  · exact mismatchReports_raiseErr (by simp) { s with owner := o }
  · rfl

theorem mismatchReports_grantStep (p : Requester) (s : State) :
    mismatchReports (grantStep p s) = mismatchReports s := by
  obtain he | ⟨-, -, he⟩ | ⟨-, -, he⟩ | ⟨r, -, -, he⟩ | ⟨r, -, -, he⟩ := grantStep_cases p s <;> rw [he]
  · exact mismatchReports_beginDecode _ s
  · exact mismatchReports_of_append rfl nofun
  · exact mismatchReports_beginDecode _ { s with evq := r }
  · exact mismatchReports_of_append rfl nofun

/-- With CFG.CKEN = 0 the number of such reports stays (42 R169). -/
theorem Effect.mismatchReports_eq {i : Instr} (h : Effect s i t) (hk : s.cken = false) :
    mismatchReports t = mismatchReports s := by
  cases h with
  | start => exact mismatchReports_startStep s
  | data => exact mismatchReports_dataStep hk
  | frame _ _ n => exact (mismatchReports_dataSteps n (by simpa using hk)).trans (mismatchReports_startStep s)
  | grant p => exact mismatchReports_grantStep p s
  | fault | tmo => exact mismatchReports_raiseErr (by simp) s
  | tmo0 => exact mismatchReports_complete (by simp) s
  | gettag => exact mismatchReports_of_append rfl nofun
  | unchanged | sfault | rx | install | uninstall => rfl
  | rise | fall | readtag | clrbuf | cfgwr => exact mismatchReports_of_outs_eq (by simp)

end

/-- Settles O51: the report would count, but no effect of an instruction adds to the count while CFG.CKEN is 0. -/
theorem noChecksumErrorWhenDisabled : Obligations.NoChecksumErrorWhenDisabled := by
  unfold Obligations.NoChecksumErrorWhenDisabled
  intro i s t hk h houts
  have hsame := (effect_of_exec_eq h).mismatchReports_eq hk
  simp [mismatchReports, houts] at hsame

end Sys2Proof.Machine

namespace Sys2Proof.Machine

open Sys2Proof.Safety

/-! ### The gate: which request a grant takes up -/

section
variable {s : State}

theorem exec_grant_eq (p : Requester) (s : State) : exec (.grant p) s = .next (grantStep p s) := rfl

theorem exec_grant_of_not_enabled (h : ¬ GrantEnabled s) (p : Requester) : exec (.grant p) s = .next s :=
  congrArg _ (grantStep_of_not_enabled h p)

/-- The preference is read only when both requesters wait (43 R181). -/
theorem chooseRequest_eq_of_one_waiting (h : s.hreq = .none ∨ s.evq = []) (p q : Requester) :
    chooseRequest p s = chooseRequest q s := by
  obtain h | h := h <;> simp [chooseRequest, h]

theorem exec_grant_eq_of_one_waiting (h : s.hreq = .none ∨ s.evq = []) (p q : Requester) :
    exec (.grant p) s = exec (.grant q) s := by
  simp only [exec_grant_eq, grantStep, chooseRequest_eq_of_one_waiting h p q]

/-- The host's request is taken up when it waits alone or is preferred (43 R181). -/
theorem exec_grant_host {p : Requester} (hs : s.fstate = .idle) (hq : s.hreq ≠ .none) (hp : s.evq = [] ∨ p = .host) :
    exec (.grant p) s = .next (grantHost s) := by
  have hchoice : chooseRequest p s = some .host := by
    obtain h | rfl := hp
    · simp [chooseRequest, hq, h]
    · simp [chooseRequest, hq]
  rw [exec_grant_eq, grantStep, if_pos hs, hchoice]

/-- The oldest edge is taken up when no host request waits or the monitor is preferred (43 R181). -/
theorem exec_grant_mon {p : Requester} (hs : s.fstate = .idle) (hv : s.evq ≠ []) (hp : s.hreq = .none ∨ p = .mon) :
    exec (.grant p) s = .next (grantMonitor s) := by
  have hchoice : chooseRequest p s = some .mon := by
    obtain h | rfl := hp
    · simp [chooseRequest, hv, h]
    · simp [chooseRequest, hv]
  rw [exec_grant_eq, grantStep, if_pos hs, hchoice]

/-- The grant of a host request makes the host the owner or frees the slot (43 R182, R185). -/
theorem grantHost_owner_or_hreq (s : State) : (grantHost s).owner = .host ∨ (grantHost s).hreq = .none := by
  unfold grantHost
  split
  next h => exact .inr h
  next =>
    rw [beginDecode_eq]
    split
    · exact .inr rfl
    · exact .inl rfl
  next => exact .inr rfl

theorem beginDecode_mon_hreq (s : State) : (beginDecode .mon s).hreq = s.hreq := by
  rw [beginDecode_eq]
  split <;> rfl

theorem grantMonitor_evq (s : State) : (grantMonitor s).evq = s.evq.tail := by
  unfold grantMonitor
  split
  next h => rw [h]; rfl
  next r h => rw [beginDecode_evq, h, List.tail_cons]
  next r h => rw [h]; rfl

theorem grantMonitor_hreq (s : State) : (grantMonitor s).hreq = s.hreq := by
  unfold grantMonitor
  split
  next => rfl
  next r _ => exact beginDecode_mon_hreq { s with evq := r }
  next => rfl

end

/-- Settles O27: in flight or with nothing waiting the grant is not enabled; the preference matters only when both
wait, and then each choice is its requester's own grant. -/
theorem gateGrantsOneRequest : Obligations.GateGrantsOneRequest := by
  unfold Obligations.GateGrantsOneRequest
  refine fun s p q => ⟨fun hs => ?_, fun hq hv => ?_, fun h => ?_, fun hs hq hv => ⟨?_, ?_⟩⟩
  · exact exec_grant_of_not_enabled (fun hg => hs hg.1) p
  · exact exec_grant_of_not_enabled (fun hg => hg.2.elim (· hq) (· hv)) p
  · exact exec_grant_eq_of_one_waiting h p q
  · exact ⟨grantHost s, exec_grant_host hs hq (.inr rfl), grantHost_evq s, grantHost_owner_or_hreq s⟩
  · exact ⟨grantMonitor s, exec_grant_mon hs hv (.inr rfl), grantMonitor_evq s, grantMonitor_hreq s⟩

/-- Settles O28: the host's grant begins a decode, which ends at once on a failed channel. -/
theorem hostReadIsGranted : Obligations.HostReadIsGranted := by
  unfold Obligations.HostReadIsGranted
  intro s p hs hq hp
  have hgrant : exec (.grant p) s = .next (beginDecode .host s) := by
    rw [exec_grant_host hs (by simp [hq]) hp, grantHost, hq]
  rw [hgrant, beginDecode_eq]
  exact ⟨fun hc => by simp [hc], fun hc => by simp [hc]⟩

/-- Settles O29: the host's grant is the clearing action, which does not look at CH_FAULT. -/
theorem hostClearIsGranted : Obligations.HostClearIsGranted := by
  unfold Obligations.HostClearIsGranted
  intro s p hs hq hp
  rw [exec_grant_host hs (by simp [hq]) hp, grantHost, hq]
  rfl

/-! ### Host commands -/

/-- Settles O16: both commands are the post of their request, which looks at the slot. -/
theorem requestsArePostedOrRefused : Obligations.RequestsArePostedOrRefused := by
  unfold Obligations.RequestsArePostedOrRefused
  exact fun s => ⟨fun h => ⟨congrArg _ (if_pos h), congrArg _ (if_pos h)⟩,
    fun h => ⟨congrArg _ (if_neg h), congrArg _ (if_neg h)⟩⟩

/-- Settles O17: the arm of GETTAG, which has no condition. -/
theorem gettagReturnsTag : Obligations.GettagReturnsTag := by
  unfold Obligations.GettagReturnsTag
  exact fun _ => rfl

section
variable {s : State} {sel val : Nat}

theorem exec_cfgwr_of_idle (hs : s.fstate = .idle) : exec (.cfgwr sel val) s = .next (writeCfg sel val s) :=
  congrArg _ (if_pos hs)

theorem exec_cfgwr_of_in_flight (hs : s.fstate ≠ .idle) : exec (.cfgwr sel val) s = .next s :=
  congrArg _ (if_neg hs)

/-- A write that would change nothing when idle changes nothing at all. -/
theorem exec_cfgwr_of_writeCfg_eq_self (h : writeCfg sel val s = s) : exec (.cfgwr sel val) s = .next s := by
  by_cases hs : s.fstate = .idle
  · rw [exec_cfgwr_of_idle hs, h]
  · exact exec_cfgwr_of_in_flight hs

/-- Selectors 3 and above are reserved (43 R188). -/
theorem writeCfg_of_reserved : 3 ≤ sel → writeCfg sel val s = s := by
  unfold writeCfg
  split <;> simp

/-- An illegal value of a field is not written (43 R189). -/
theorem writeCfg_of_illegal
    (h : (sel = 0 ∧ val ≠ 14 ∧ val ≠ 16) ∨ (sel = 1 ∧ val ≠ 0 ∧ val ≠ 1) ∨ (sel = 2 ∧ val = 0)) :
    writeCfg sel val s = s := by
  obtain ⟨rfl, h14, h16⟩ | ⟨rfl, h0, h1⟩ | ⟨rfl, rfl⟩ := h
  · simp [writeCfg, h14, h16]
  · simp [writeCfg, h0, h1]
  · rfl

end

/-- Settles O20: idle, a legal write is the arm of its selector; each other case leaves the state. -/
theorem cfgwrWritesLegalFields : Obligations.CfgwrWritesLegalFields := by
  unfold Obligations.CfgwrWritesLegalFields
  refine fun s sel val => ⟨fun hs => ?_, ?_⟩
  · rw [exec_cfgwr_of_idle hs]
    refine ⟨?_, ?_, ?_, ?_, ?_⟩
    · rintro rfl rfl; rfl
    · rintro rfl rfl; rfl
    · rintro rfl rfl; rfl
    · rintro rfl rfl; rfl
    · rintro rfl hv; exact congrArg _ (if_pos hv)
  · rintro (hs | h | h | h | h)
    · exact exec_cfgwr_of_in_flight hs
    · exact exec_cfgwr_of_writeCfg_eq_self (writeCfg_of_illegal (.inl h))
    · exact exec_cfgwr_of_writeCfg_eq_self (writeCfg_of_illegal (.inr (.inl h)))
    · exact exec_cfgwr_of_writeCfg_eq_self (writeCfg_of_illegal (.inr (.inr h)))
    · exact exec_cfgwr_of_writeCfg_eq_self (writeCfg_of_reserved h)

/-- Settles O21: the two arms are empty, and a reserved selector writes nothing. -/
theorem reservedCommandsDoNothing : Obligations.ReservedCommandsDoNothing := by
  unfold Obligations.ReservedCommandsDoNothing
  exact fun s sel val => ⟨rfl, rfl, fun h => exec_cfgwr_of_writeCfg_eq_self (writeCfg_of_reserved h)⟩

/-! ### Register reads and reset -/

/-- The host-visible registers do not show TMR or the schedule, so taking up an item leaves what a read returns. -/
theorem readReg_takeUp (r : CReg) (it : Item) (rest : List Item) (s : State) :
    readReg r (takeUp it rest s) = readReg r s := by
  cases r <;> simp [readReg, cr0, cr2, cr3]

/-- Settles O6: neither item presents a word, so the step is the read or the reset in the state the item leaves. -/
theorem registerReadsAndReset : Obligations.RegisterReadsAndReset := by
  unfold Obligations.RegisterReadsAndReset
  refine fun s d rest hd => ⟨fun r htr => ?_, fun a htr => ?_⟩
  · rw [step_no_instr htr hd rfl]
    show Host.Outcome.next (hostRead r (takeUp ⟨d, .readReg r⟩ rest s)) = _
    rw [hostRead, emit, readReg_takeUp, takeUp_outs]
    rfl
  · rw [step_no_instr htr hd rfl]
    show Host.Outcome.next (hostReset a (takeUp ⟨d, .reset a⟩ rest s)) = _
    rw [hostReset, takeUp_line, takeUp_linePresent, takeUp_outs]
    rfl

end Sys2Proof.Machine

namespace Sys2Proof.Machine

open Sys2Proof.Safety

/-! ### What an instruction does to TAG -/

section
variable {s t : State}

/-- Of the owners only the monitor has TAG written at the end of its operation (40 R130, 44 R207). -/
theorem delivered_tag_cases (o : Owner) (res : DecRes) (s : State) :
    (delivered o res s).tag = s.tag ∨ (o = .mon ∧ (delivered o res s).tag = resultValue res) := by
  cases o with
  | none | host => exact .inl rfl
  | mon => exact .inr ⟨rfl, rfl⟩

theorem Advance.tag_cases (h : Advance s t) : t.tag = s.tag ∨ (s.owner = .mon ∧ t.owner = .none) := by
  cases h with
  | goesOn => exact .inl rfl
  | ends res rxq fb cnt tmr fstate =>
    rw [complete_eq_delivered]
    refine (delivered_tag_cases _ res _).imp_right fun ⟨ho, _⟩ => ⟨ho, ?_⟩
    rw [ho]
    rfl

/-- A decode that begins writes TAG only when it is the monitor's and ends at once, with StreamFault (44 R206). -/
theorem beginDecode_tag_cases (o : Owner) (s : State) :
    (beginDecode o s).tag = s.tag ∨ (o = .mon ∧ (beginDecode o s).tag = 0) := by
  rw [beginDecode_eq]
  split
  · exact delivered_tag_cases o (.err .streamFault) s
  · exact .inl rfl

/-- A grant writes TAG only when it takes up an edge, and then with 0 (44 R206, R208). -/
theorem grantStep_tag_cases (p : Requester) (s : State) :
    (grantStep p s).tag = s.tag ∨
    (s.fstate = .idle ∧ (∃ e, s.evq = e :: (grantStep p s).evq) ∧ (grantStep p s).tag = 0) := by
  obtain he | ⟨-, -, he⟩ | ⟨-, -, he⟩ | ⟨r, hs, hq, he⟩ | ⟨r, hs, hq, he⟩ := grantStep_cases p s <;> rw [he]
  · exact .inl rfl
  · exact .inl ((beginDecode_tag_cases .host s).resolve_right nofun)
  · exact .inl rfl
  · exact (beginDecode_tag_cases .mon { s with evq := r }).imp_right fun ⟨_, htag⟩ =>
      ⟨hs, ⟨.rise, by simp [hq]⟩, htag⟩
  · exact .inr ⟨hs, ⟨.fall, hq⟩, rfl⟩

/-- TAG is kept unless an operation of the monitor ends, or an edge is granted. -/
theorem Effect.tag_cases {i : Instr} (h : Effect s i t) :
    t.tag = s.tag ∨
    (s.fstate ≠ .idle ∧ s.owner = .mon ∧ t.owner = .none) ∨
    ((∃ p, i = .grant p) ∧ s.fstate = .idle ∧ (∃ e, s.evq = e :: t.evq) ∧ t.tag = 0) := by
  by_cases hidle : s.fstate = .idle ∧ TakesBytes i
  · exact .inl (congrArg State.tag (h.eq_of_idle hidle.1 hidle.2))
  have inFlight (ha : Advance s t) (hs : s.fstate = .idle → TakesBytes i) :
      t.tag = s.tag ∨ (s.fstate ≠ .idle ∧ s.owner = .mon ∧ t.owner = .none) ∨
      ((∃ p, i = .grant p) ∧ s.fstate = .idle ∧ (∃ e, s.evq = e :: t.evq) ∧ t.tag = 0) :=
    ha.tag_cases.imp_right fun ho => .inl ⟨fun h0 => hidle ⟨h0, hs h0⟩, ho⟩
  cases h with
  | start hi => exact inFlight (advance_startStep s) fun _ => takesBytes_of_start_or_frame (hi.imp_right .inl)
  | data hi => exact inFlight (advance_dataStep s) fun _ => .inr (hi.imp_right .inl)
  | frame hi _ n =>
    exact inFlight ((advance_startStep s).dataSteps n) fun _ => takesBytes_of_start_or_frame (.inr (.inr hi))
  | fault hs => exact inFlight (advance_raiseErr _ s) fun h0 => absurd h0 hs.1
  | tmo hs => exact inFlight (advance_raiseErr _ s) fun h0 => nomatch h0.symm.trans hs.1
  | tmo0 hs => exact inFlight (advance_complete _ s) fun h0 => nomatch h0.symm.trans hs.2.1
  | grant p => exact (grantStep_tag_cases p s).imp_right fun hg => .inr ⟨⟨p, rfl⟩, hg⟩
  | unchanged | sfault | rx | gettag | install | uninstall => exact .inl rfl
  | rise | fall | readtag | clrbuf | cfgwr => exact .inl (by simp)

end

/-- Settles O43: by the effect of the instruction on TAG. -/
theorem onlyTheMonitorWritesTag : Obligations.OnlyTheMonitorWritesTag := by
  unfold Obligations.OnlyTheMonitorWritesTag
  intro i s t h hne
  refine ((effect_of_exec_eq h).tag_cases.resolve_left hne).imp_right ?_
  rintro ⟨⟨p, hp⟩, hs, ⟨e, he⟩, htag⟩
  exact ⟨p, e, t.evq, hp, hs, he, rfl, htag⟩

/-! ### How an instruction ends the operation in flight -/

/-- The rows that can take the last byte of a frame, and so validate it (40 R125; log 7, log 8). -/
abbrev TakesLastByte (i : Instr) : Prop := i = .data ∨ (∃ b, i = .any b) ∨ rowKind i = .frame

/-- How an instruction ends the operation in flight: a row that takes the last byte of a frame delivers the answer of
the check on the bytes then in FB (40 R125), and every other instruction delivers an error or the value 0 of TMO0. -/
inductive Ending (s : State) (i : Instr) : State → Prop
  | checked (hi : TakesLastByte i) (rxq : List Byte) (fb : Vector Byte 16) (cnt : Nat) (tmr : Duration)
      (fstate : FState) :
      Ending s i (delivered s.owner (checkFrame fb.toList s.cken)
        { s with rxq := rxq, fb := fb, cnt := cnt, tmr := tmr, fstate := fstate })
  | unchecked (hi : ¬ TakesLastByte i) (res : DecRes) (hres : resultValue res = 0) (rxq : List Byte) :
      Ending s i (delivered s.owner res { s with rxq := rxq })

section
variable {s t : State} {i : Instr}

theorem ending_finishFrame (hi : TakesLastByte i) (rxq : List Byte) (fb : Vector Byte 16) (cnt : Nat)
    (tmr : Duration) (fstate : FState) :
    Ending s i (finishFrame { s with rxq := rxq, fb := fb, cnt := cnt, tmr := tmr, fstate := fstate }) := by
  rw [finishFrame_eq_delivered]
  exact .checked hi _ fb cnt tmr fstate

theorem ending_raiseErr (hi : ¬ TakesLastByte i) (k : ErrKind) (rxq : List Byte) :
    Ending s i (raiseErr k { s with rxq := rxq }) := by
  rw [raiseErr_eq_delivered]
  split
  · exact .unchecked hi _ rfl rxq
  · exact .unchecked hi _ rfl []

theorem ending_startStep (hi : ¬ TakesLastByte i) (hs : s.fstate ≠ .idle) (ht : (startStep s).fstate = .idle) :
    Ending s i (startStep s) := by
  obtain he | ⟨r, -, -, -, he⟩ | ⟨b, r, -, -, -, -, he⟩ := startStep_cases s <;> rw [he] at ht ⊢
  · exact absurd ht hs
  · exact nomatch ht
  · exact ending_raiseErr hi _ r

theorem ending_dataStep (hi : TakesLastByte i) (hs : s.fstate ≠ .idle) (ht : (dataStep s).fstate = .idle) :
    Ending s i (dataStep s) := by
  obtain he | ⟨b, r, -, -, -, -, he⟩ | ⟨b, r, -, -, -, -, he⟩ := dataStep_cases s <;> rw [he] at ht ⊢
  · exact absurd ht hs
  · exact absurd ht hs
  · exact ending_finishFrame hi r _ _ s.tmr s.fstate

/-- A whole frame goes through to its check. -/
theorem ending_wholeFrame {d : DataSize} {f : List Byte} (hi : TakesLastByte i)
    (hf : (Config.startMarker :: f).length = frameLen d) (hs : s.fstate ≠ .idle)
    (ht : (wholeFrame d (Config.startMarker :: f) s).fstate = .idle) :
    Ending s i (wholeFrame d (Config.startMarker :: f) s) := by
  by_cases hc : s.fstate = .start ∧ s.chFault = false ∧ s.datasize = d ∧
      s.rxq.take (frameLen d) = Config.startMarker :: f
  · obtain ⟨hstart, hfault, rfl, htake⟩ := hc
    have hr : s.rxq = Config.startMarker :: f ++ s.rxq.drop (frameLen s.datasize) := by
      rw [← htake, List.take_append_drop]
    rw [wholeFrame_eq_finishFrame rfl hf hstart hfault hr]
    exact ending_finishFrame hi _ _ _ 0 .collect
  · rw [wholeFrame, if_neg hc] at ht
    exact absurd ht hs

/-- No digit is wanted at the last position of a frame (30 R93), so a digit row ends no operation. -/
theorem takeDigit_fstate (b : Byte) (s : State) : (takeDigit b s).fstate = s.fstate := by
  unfold takeDigit
  split
  next hc =>
    obtain ⟨-, hw, -⟩ := hc
    obtain he | ⟨c, r, -, -, -, -, he⟩ | ⟨c, r, -, -, -, hn, -⟩ := dataStep_cases s
    · rw [he]
    · rw [he]
    · exact absurd hw (Ctx.ignoresByte_iff.1 (ignoresByte_of_last hn)).2
  next => rfl

/-- Of the instructions that take no bytes, FAULT, TMO and TMO0 end an operation. -/
theorem Effect.ending (h : Effect s i t) (hi : ¬ TakesBytes i) (hs : s.fstate ≠ .idle) (ht : t.fstate = .idle) :
    Ending s i t := by
  cases h with
  | fault | tmo => exact ending_raiseErr (by simp [TakesLastByte, rowKind]) _ s.rxq
  | tmo0 =>
    rw [complete_eq_delivered]
    exact .unchecked (by simp [TakesLastByte, rowKind]) (.ok 0) rfl s.rxq
  | start hstart => exact absurd (takesBytes_of_start_or_frame (hstart.imp_right .inl)) hi
  | data hdata => exact absurd (.inr (hdata.imp_right .inl)) hi
  | frame hframe => exact absurd (.inr (.inr (.inr hframe))) hi
  | grant p =>
    rw [grantStep_of_not_enabled fun hg => hs hg.1] at ht
    exact absurd ht hs
  | cfgwr hidle => exact absurd hidle hs
  | unchanged | sfault | rx | gettag | install | uninstall => exact absurd ht hs
  | rise | fall | readtag | clrbuf => exact absurd (by simpa using ht) hs

/-- Every end of an operation in flight is one of the two. -/
theorem ending_of_exec (h : exec i s = .next t) (hs : s.fstate ≠ .idle) (ht : t.fstate = .idle) :
    Ending s i t := by
  cases i with
  | frameA =>
    obtain rfl := Host.Outcome.next.inj h
    exact ending_wholeFrame (.inr (.inr rfl)) rfl hs ht
  | frameB =>
    obtain rfl := Host.Outcome.next.inj h
    exact ending_wholeFrame (.inr (.inr rfl)) rfl hs ht
  | start | stx =>
    obtain rfl | rfl := eq_startStep_of_exec h (by simp)
    · exact absurd ht hs
    · exact ending_startStep (by simp [TakesLastByte, rowKind]) hs ht
  | data | any =>
    obtain rfl | rfl := (effect_of_exec_eq h).eq_dataStep (by simp [rowKind])
    · exact absurd ht hs
    · exact ending_dataStep (by simp [TakesLastByte]) hs ht
  | hex0 | hex1 | hex2 | hex3 | hex4 | hex5 | hex6 | hex7 | hex8 | hex9
  | hexUpA | hexUpB | hexUpC | hexUpD | hexUpE | hexUpF
  | hexLowA | hexLowB | hexLowC | hexLowD | hexLowE | hexLowF =>
    obtain rfl := Host.Outcome.next.inj h
    exact absurd ((takeDigit_fstate _ s).symm.trans ht) hs
  | nonhex b =>
    obtain rfl : (if isHex b then s else takeDigit b s) = t := Host.Outcome.next.inj h
    split at ht
    · exact absurd ht hs
    · exact absurd ((takeDigit_fstate b s).symm.trans ht) hs
  | _ => exact (effect_of_exec_eq h).ending (by simp [TakesBytes, rowKind]) hs ht

end

/-! ### What the monitor keeps of a frame -/

section
variable {f : List Byte} {cken : Bool}

/-- The value of a frame that passes every enabled check is its payload (40 R125). -/
theorem payload_eq_resultValue (hp : payloadOk f = true)
    (hc : cken = true → ckFieldOk f = true ∧ ckCalc f = ckRx f) :
    payload f = some (resultValue (checkFrame f cken)) := by
  obtain ⟨v, hv⟩ := Option.isSome_iff_exists.1 ((payload_isSome f).trans hp)
  have hck : cken = false ∨ (ckFieldOk f = true ∧ ckCalc f = ckRx f) := by
    cases cken with
    | false => exact .inl rfl
    | true => exact .inr (hc rfl)
  rw [checkFrame_of_passes hv hck, hv]
  rfl

/-- The value of a frame that fails an enabled check is 0 (10 R34, 44 R207). -/
theorem resultValue_checkFrame_of_fails
    (h : ¬ (payloadOk f = true ∧ (cken = true → ckFieldOk f = true ∧ ckCalc f = ckRx f))) :
    resultValue (checkFrame f cken) = 0 := by
  by_cases hp : payloadOk f = true
  · obtain ⟨hk, hbad⟩ : cken = true ∧ ¬ (ckFieldOk f = true ∧ ckCalc f = ckRx f) :=
      Classical.not_imp.1 fun hc => h ⟨hp, hc⟩
    rw [not_and_or, Bool.not_eq_true] at hbad
    rw [checkFrame_of_checksum_bad hp hk hbad]
    rfl
  · rw [checkFrame_of_payloadOk_false (Bool.not_eq_true _ ▸ hp)]
    rfl

end

/-- Settles O50: by how the instruction ends the operation; the check's value is the payload or 0, and every other
result is 0 to the monitor. -/
theorem monitorSwallowsErrors : Obligations.MonitorSwallowsErrors := by
  unfold Obligations.MonitorSwallowsErrors
  intro i s t hs ho h ht
  cases ending_of_exec h hs ht with
  | checked hi rxq fb cnt tmr fstate =>
    rw [ho]
    exact ⟨fun _ hpass => payload_eq_resultValue hpass.1 hpass.2,
      fun _ hfail => resultValue_checkFrame_of_fails hfail, fun hn => absurd hi hn,
      rfl, rfl, rfl, rfl, rfl, rfl, rfl⟩
  | unchecked hi res hres rxq =>
    rw [ho]
    exact ⟨fun hl => absurd hl hi, fun hl => absurd hl hi, fun _ => hres, rfl, rfl, rfl, rfl, rfl, rfl, rfl⟩

/-! ### The monitor's commands, edges and grants -/

/-- Settles O18: the arm of INSTALL, whose condition is the line and MON_EN = 0. -/
theorem installLoadsDetector : Obligations.InstallLoadsDetector := by
  unfold Obligations.InstallLoadsDetector
  intro s
  refine ⟨fun hp hm => congrArg _ (if_pos ⟨hp, hm⟩), fun h => congrArg _ (if_neg fun ⟨hp, hm⟩ => ?_)⟩
  obtain hp' | hm' := h
  · exact nomatch hp.symm.trans hp'
  · exact nomatch hm.symm.trans hm'

/-- Settles O19: the arm of UNINSTALL, which has no condition and writes constants. -/
theorem uninstallDetaches : Obligations.UninstallDetaches := by
  unfold Obligations.UninstallDetaches
  exact fun _ => ⟨rfl, rfl⟩

section
variable {s : State} {l : Bool}

/-- Not installed, the detector does not see the line (44 R202). -/
theorem lineStep_of_detached (hl : l ≠ s.line) (hm : s.monEn = false) : lineStep l s = { s with line := l } := by
  simp [lineStep, hl, hm]

theorem lineStep_of_installed (hl : l ≠ s.line) (hm : s.monEn = true) :
    lineStep l s = { s with line := l, lineQ := l, evq := s.evq ++ edgeOf s.lineQ l } := by
  simp [lineStep, hl, hm]

/-- A level that the detector has already seen is no edge. -/
theorem lineStep_of_seen (hl : l ≠ s.line) (hm : s.monEn = true) (hq : s.lineQ = l) :
    lineStep l s = { s with line := l } := by
  have hnone : edgeOf s.lineQ l = [] := by rw [hq]; cases l <;> rfl
  rw [lineStep_of_installed hl hm, hnone, List.append_nil, ← hq]

end

/-- Settles O26: RISE and FALL are the level change, whose edge is the level against LINE_Q. -/
theorem levelChangesQueueEdges : Obligations.LevelChangesQueueEdges := by
  unfold Obligations.LevelChangesQueueEdges
  refine fun s => ⟨fun hl hm => ?_, fun hl hm hq => ?_, fun hl hm hq => ?_, fun hl hm => ?_, fun hl hm hq => ?_,
    fun hl hm hq => ?_⟩
  · exact congrArg _ (lineStep_of_detached (by simp [hl]) hm)
  · exact congrArg _ ((lineStep_of_installed (by simp [hl]) hm).trans (by rw [hq]; rfl))
  · exact congrArg _ (lineStep_of_seen (by simp [hl]) hm hq)
  · exact congrArg _ (lineStep_of_detached (by simp [hl]) hm)
  · exact congrArg _ ((lineStep_of_installed (by simp [hl]) hm).trans (by rw [hq]; rfl))
  · exact congrArg _ (lineStep_of_seen (by simp [hl]) hm hq)

/-- Settles O30: a rising edge begins a decode, which ends at once on a failed channel; a falling edge is its action. -/
theorem monitorEdgeIsGranted : Obligations.MonitorEdgeIsGranted := by
  unfold Obligations.MonitorEdgeIsGranted
  intro s p e r hs hq hp
  rw [exec_grant_mon hs (by simp [hq]) hp, grantMonitor, hq]
  refine ⟨?_, ?_, ?_⟩
  · rintro rfl hc
    simp [beginDecode_eq, hc]
  · rintro rfl hc
    simp [beginDecode_eq, hc]
  · rintro rfl
    rfl

end Sys2Proof.Machine

namespace Sys2Proof.Machine

open Sys2Proof.Safety

/-! ### No instruction stops the block -/

/-- Settles O42: every instruction has an effect. -/
theorem noInstructionStopsTheBlock : Obligations.NoInstructionStopsTheBlock := by
  unfold Obligations.NoInstructionStopsTheBlock
  intro i s
  obtain ⟨t, ht, -⟩ := exec_effect i s
  exact ⟨t, ht⟩

/-! ### What an instruction does to MON_EN, LINE, LINE_Q and PSTATE -/

section
variable {s t : State} {i : Instr}

theorem Effect.monEn_eq (h : Effect s i t) : t.monEn = s.monEn ∨ i = .install ∨ i = .uninstall := by
  cases h with
  | install => exact .inr (.inl rfl)
  | uninstall => exact .inr (.inr rfl)
  | unchanged | sfault | rx | gettag => exact .inl rfl
  | start | data | frame | grant | fault | tmo | tmo0 | rise | fall | readtag | clrbuf | cfgwr =>
    exact .inl (by simp)

theorem Effect.line_eq (h : Effect s i t) : t.line = s.line ∨ i = .rise ∨ i = .fall := by
  cases h with
  | rise => exact .inr (.inl rfl)
  | fall => exact .inr (.inr rfl)
  | unchanged | sfault | rx | gettag | install | uninstall => exact .inl rfl
  | start | data | frame | grant | fault | tmo | tmo0 | readtag | clrbuf | cfgwr => exact .inl (by simp)

theorem Effect.lineQ_eq (h : Effect s i t) : t.lineQ = s.lineQ ∨ i = .install ∨ i = .rise ∨ i = .fall := by
  cases h with
  | install => exact .inr (.inl rfl)
  | rise => exact .inr (.inr (.inl rfl))
  | fall => exact .inr (.inr (.inr rfl))
  | unchanged | sfault | rx | gettag | uninstall => exact .inl rfl
  | start | data | frame | grant | fault | tmo | tmo0 | readtag | clrbuf | cfgwr => exact .inl (by simp)

/-- An operation writes PSTATE only at its end, and only when it is the monitor's (44 R207). -/
theorem Advance.owner_of_pstate_ne (h : Advance s t) (hne : t.pstate ≠ s.pstate) :
    s.owner = .mon ∧ t.owner = .none := by
  cases h with
  | goesOn => exact absurd rfl hne
  | ends res rxq fb cnt tmr fstate =>
    rw [complete_eq_delivered] at hne ⊢
    cases ho : s.owner with
    | none | host => exact absurd (by simp [ho, delivered]) hne
    | mon => exact ⟨rfl, rfl⟩

theorem beginDecode_host_pstate (s : State) : (beginDecode .host s).pstate = s.pstate := by
  rw [beginDecode_eq]
  split <;> rfl

/-- A grant writes PSTATE only when it takes up an edge (44 R205). -/
theorem grantStep_pstate_cases (p : Requester) (s : State) :
    (grantStep p s).pstate = s.pstate ∨ ∃ e, s.evq = e :: (grantStep p s).evq := by
  obtain he | ⟨-, -, he⟩ | ⟨-, -, he⟩ | ⟨r, -, hq, he⟩ | ⟨r, -, hq, he⟩ := grantStep_cases p s <;> rw [he]
  · exact .inl rfl
  · exact .inl (beginDecode_host_pstate s)
  · exact .inl rfl
  · exact .inr ⟨.rise, by simp [hq]⟩
  · exact .inr ⟨.fall, hq⟩

/-- The writers of PSTATE: INSTALL, the end of an operation of the monitor, and the grant of an edge (10 R28). -/
theorem Effect.writer_of_pstate_ne (h : Effect s i t) (hne : t.pstate ≠ s.pstate) :
    i = .install ∨ (s.fstate ≠ .idle ∧ s.owner = .mon ∧ t.owner = .none) ∨
    ∃ p e, i = .grant p ∧ s.evq = e :: t.evq := by
  have inFlight (hi : TakesBytes i) : s.fstate ≠ .idle :=
    fun hs => hne (congrArg State.pstate (h.eq_of_idle hs hi))
  have ends (hs : s.fstate ≠ .idle) (ha : Advance s t) :
      i = .install ∨ (s.fstate ≠ .idle ∧ s.owner = .mon ∧ t.owner = .none) ∨
      ∃ p e, i = .grant p ∧ s.evq = e :: t.evq :=
    .inr (.inl ⟨hs, ha.owner_of_pstate_ne hne⟩)
  cases h with
  | start hi => exact ends (inFlight (takesBytes_of_start_or_frame (hi.imp_right .inl))) (advance_startStep s)
  | data hi => exact ends (inFlight (.inr (hi.imp_right .inl))) (advance_dataStep s)
  | frame _ hs n => exact ends (by simp [hs.1]) ((advance_startStep s).dataSteps n)
  | fault hs => exact ends hs.1 (advance_raiseErr _ s)
  | tmo hs => exact ends (by simp [hs.1]) (advance_raiseErr _ s)
  | tmo0 hs => exact ends (by simp [hs.2.1]) (advance_complete _ s)
  | grant p =>
    obtain ⟨e, he⟩ := (grantStep_pstate_cases p s).resolve_left hne
    exact .inr (.inr ⟨p, e, rfl, he⟩)
  | install => exact .inl rfl
  | unchanged | sfault | rx | gettag | uninstall => exact absurd rfl hne
  | rise | fall | readtag | clrbuf | cfgwr => exact absurd (by simp) hne

end

/-- Settles O54: by the effect of the instruction on each of the four. -/
theorem monitorStateWriters : Obligations.MonitorStateWriters := by
  unfold Obligations.MonitorStateWriters
  intro i s t h
  have he : Effect s i t := effect_of_exec_eq h
  refine ⟨he.monEn_eq.resolve_left, he.line_eq.resolve_left, he.lineQ_eq.resolve_left, fun hne => ?_⟩
  refine (he.writer_of_pstate_ne hne).imp_right (Or.imp_right ?_)
  rintro ⟨p, e, hp, hq⟩
  exact ⟨p, e, t.evq, hp, hq, rfl⟩

end Sys2Proof.Machine

namespace Sys2Proof.Machine

open Sys2Proof.Safety

/-! ### The launch state, and the end of a trace -/

section
variable {s : State}

/-- With no operation in flight the only engine step is a grant (00 R15, 43 R181). -/
theorem quiescent_iff_of_idle (hs : s.fstate = .idle) : Quiescent s ↔ s.hreq = .none ∧ s.evq = [] := by
  simp [Quiescent, EngineEnabled, GrantEnabled, StartEnabled, DataEnabled, FaultEnabled, hs]

theorem quiescent_launch (a : Config.LaunchArgs) : Quiescent (State.launch a) :=
  (quiescent_iff_of_idle rfl).2 ⟨rfl, rfl⟩

/-- Not installed, the detector leaves LINE at the level, whether or not that is a change (44 R202). -/
theorem lineStep_eq_of_detached (hm : s.monEn = false) (l : Bool) : lineStep l s = { s with line := l } := by
  by_cases hl : s.line = l
  · subst hl
    exact lineStep_of_eq rfl
  · exact lineStep_of_detached (Ne.symm hl) hm

theorem endReport_of_not_traceEnded (h : ¬ TraceEnded s) : endReport s = none := if_neg h

theorem endReport_of_traceEnded (h : TraceEnded s) :
    endReport s = some
      { tag := s.tag, resValid := s.resValid, resKind := s.resKind, resValue := s.resValue, rxq := s.rxq
        pstate := s.pstate, fstate := s.fstate, outs := s.outs, blocked := decide (EndsBlocked s) } :=
  if_pos h

/-- What no engine step can move is idle with no request waiting, or an operation that waits for a byte (00 R15). -/
theorem idle_or_waiting_of_quiescent (h : BlockInv s) (hq : Quiescent s) :
    (s.fstate = .idle ∧ s.hreq = .none ∧ s.evq = []) ∨ (Waiting s ∧ s.rxq = [] ∧ s.chFault = false) := by
  by_cases hs : s.fstate = .idle
  · exact .inl ⟨hs, (quiescent_iff_of_idle hs).1 hq⟩
  · have hw : Waiting s := ⟨hs, hq⟩
    exact .inr ⟨hw, ((waiting_iff h).1 hw).2⟩

end

/-- Settles O58: the report is read off the state, which is blocked exactly when it is not idle; with no engine step
enabled it is idle with nothing waiting, or waits. -/
theorem traceEndsIdleOrBlocked : Obligations.TraceEndsIdleOrBlocked := by
  unfold Obligations.TraceEndsIdleOrBlocked
  refine fun s h => ⟨endReport_of_not_traceEnded, fun he => ⟨step_nil he.1, _, endReport_of_traceEnded he,
    rfl, rfl, rfl, rfl, rfl, rfl, rfl, rfl, ?_⟩⟩
  obtain hidle | hwait := idle_or_waiting_of_quiescent h he.2
  · have hb : ¬ EndsBlocked s := fun hb => hb.2 hidle.1
    exact .inl ⟨decide_eq_false hb, hidle⟩
  · have hb : EndsBlocked s := ⟨he, hwait.1.1⟩
    exact .inr ⟨decide_eq_true hb, hwait⟩

/-- Settles O1: the fields of the launch state; the argument T_FRAME carries its own positivity. -/
theorem launchValues : Obligations.LaunchValues := by
  unfold Obligations.LaunchValues
  exact fun a => ⟨⟨rfl, rfl, rfl⟩, ⟨rfl, rfl, rfl, rfl, rfl, rfl⟩, ⟨rfl, rfl, rfl, rfl, a.tFrame.2⟩, rfl, rfl, rfl⟩

/-- Settles O2: the launch state is quiescent and has no schedule, and the detector is not installed. -/
theorem nothingHappensAfterReset : Obligations.NothingHappensAfterReset := by
  unfold Obligations.NothingHappensAfterReset
  intro a
  have hq : Quiescent (State.launch a) := quiescent_launch a
  have hline (l : Bool) := lineStep_eq_of_detached (s := State.launch a) rfl l
  exact ⟨hq, rfl, step_nil rfl, exec_grant_of_not_enabled fun hg => hq (.inl hg), fun _ => rfl,
    congrArg _ (hline true), congrArg _ (hline false)⟩

end Sys2Proof.Machine
